-- ==== Sys2Proof/Word.lean ====
section
/-! DEFINITION. The word types of the μPD17103 (00_scope.md R7, R11, R12). Every data value is an unsigned
nibble; an instruction is one 16-bit word; addresses are 9 bits (program) and 7 bits (data). -/

namespace Sys2Proof

/-- One instruction word, b15 (most significant) to b0 (30_encoding.md R100). -/
abbrev Word := BitVec 16

/-- One 4-bit unit of data memory (20_memory.md R63). -/
abbrev Nibble := BitVec 4

/-- Half of an instruction word, the cell a program image is written in (log entry 1). -/
abbrev Byte := BitVec 8

/-- A program-memory word address, 000H to 1FFH (20_memory.md R61). -/
abbrev ProgAddr := BitVec 9

/-- A data-memory address, row (3 bits) and column (4 bits) (20_memory.md R63). -/
abbrev DataAddr := BitVec 7

/-- A general-register column address (30_encoding.md R107). -/
abbrev RegNum := BitVec 4

end Sys2Proof
end

