-- ==== Sys2Proof/Machine/Flags.lean ====
section
/-! DEFINITION. The ALU: raw result, binary and decimal outcome, the Z rule, the test conditions and the rotation
(40_arithmetic.md R143 to R147, 42_judge_compare.md R181 to R187, 43_rotate_transfer.md R201). -/

namespace Sys2Proof.Machine

/-- Addition or subtraction (40_arithmetic.md R140). -/
inductive Direction where
  | add
  | sub
deriving DecidableEq, Repr

/-- What the ALU gives: carry or borrow, and the digit. -/
structure AluOut where
  carry : Bool
  value : Nibble
deriving DecidableEq, Repr

/-- The raw result t, an exact integer (40_arithmetic.md R143). -/
def rawResult (d : Direction) (a b : Nibble) (c : Bool) : Int :=
  match d with
  | .add => (a.toNat : Int) + (b.toNat : Int) + (c.toNat : Int)
  | .sub => (a.toNat : Int) - (b.toNat : Int) - (c.toNat : Int)

/-- Binary mode: t modulo 16, carry above 15 and borrow below 0 (40_arithmetic.md R144). -/
def binaryOut (t : Int) : AluOut := { carry := decide (15 < t ∨ t < 0), value := BitVec.ofInt 4 t }

/-- Table 5-2, decimal addition, rows t = 0 to 31 (40_arithmetic.md R145). -/
def decimalAddTable : List AluOut :=
  [⟨false, 0b0000#4⟩, ⟨false, 0b0001#4⟩, ⟨false, 0b0010#4⟩, ⟨false, 0b0011#4⟩,
   ⟨false, 0b0100#4⟩, ⟨false, 0b0101#4⟩, ⟨false, 0b0110#4⟩, ⟨false, 0b0111#4⟩,
   ⟨false, 0b1000#4⟩, ⟨false, 0b1001#4⟩, ⟨true, 0b0000#4⟩, ⟨true, 0b0001#4⟩,
   ⟨true, 0b0010#4⟩, ⟨true, 0b0011#4⟩, ⟨true, 0b0100#4⟩, ⟨true, 0b0101#4⟩,
   ⟨true, 0b0110#4⟩, ⟨true, 0b0111#4⟩, ⟨true, 0b1000#4⟩, ⟨true, 0b1001#4⟩,
   ⟨true, 0b1110#4⟩, ⟨true, 0b1111#4⟩, ⟨true, 0b1100#4⟩, ⟨true, 0b1101#4⟩,
   ⟨true, 0b1110#4⟩, ⟨true, 0b1111#4⟩, ⟨true, 0b1100#4⟩, ⟨true, 0b1101#4⟩,
   ⟨true, 0b1010#4⟩, ⟨true, 0b1011#4⟩, ⟨true, 0b1000#4⟩, ⟨true, 0b1001#4⟩]

/-- Table 5-2, decimal subtraction, rows t = -16 to 15 (40_arithmetic.md R145). -/
def decimalSubTable : List AluOut :=
  [⟨true, 0b1110#4⟩, ⟨true, 0b1111#4⟩, ⟨true, 0b1100#4⟩, ⟨true, 0b1101#4⟩,
   ⟨true, 0b1110#4⟩, ⟨true, 0b1111#4⟩, ⟨true, 0b0000#4⟩, ⟨true, 0b0001#4⟩,
   ⟨true, 0b0010#4⟩, ⟨true, 0b0011#4⟩, ⟨true, 0b0100#4⟩, ⟨true, 0b0101#4⟩,
   ⟨true, 0b0110#4⟩, ⟨true, 0b0111#4⟩, ⟨true, 0b1000#4⟩, ⟨true, 0b1001#4⟩,
   ⟨false, 0b0000#4⟩, ⟨false, 0b0001#4⟩, ⟨false, 0b0010#4⟩, ⟨false, 0b0011#4⟩,
   ⟨false, 0b0100#4⟩, ⟨false, 0b0101#4⟩, ⟨false, 0b0110#4⟩, ⟨false, 0b0111#4⟩,
   ⟨false, 0b1000#4⟩, ⟨false, 0b1001#4⟩, ⟨true, 0b1100#4⟩, ⟨true, 0b1101#4⟩,
   ⟨true, 0b1110#4⟩, ⟨true, 0b1111#4⟩, ⟨true, 0b1100#4⟩, ⟨true, 0b1101#4⟩]

/-- Decimal mode: the row of Table 5-2 (40_arithmetic.md R145). No pair of operands reaches outside the table
(93_implementation_defined.md U9), so the entry for a missing row is never read. -/
def decimalOut (d : Direction) (t : Int) : AluOut :=
  match d with
  | .add => decimalAddTable.getD t.toNat ⟨true, 0#4⟩
  | .sub => decimalSubTable.getD (t + 16).toNat ⟨true, 0#4⟩

/-- The ALU's answer for the BCD flag, the direction, the operands and the carry in (40_arithmetic.md R147). -/
def aluOut (bcd : Bool) (d : Direction) (a b : Nibble) (c : Bool) : AluOut :=
  if bcd then decimalOut d (rawResult d a b c) else binaryOut (rawResult d a b c)

/-- Z after an arithmetic operation (10_state.md R33): cleared by a result other than 0, set by a 0 only where CMP is 0.
The result is the digit that is or would be stored (log entry 20). -/
def zeroAfter (cmp z : Bool) (res : Nibble) : Bool := if res = 0#4 then (if cmp then z else true) else false

/-- Every bit the mask selects is 1 (42_judge_compare.md R181). -/
def allTrue (v n : Nibble) : Bool := (v &&& n) == n

/-- Every bit the mask selects is 0 (42_judge_compare.md R182). -/
def allFalse (v n : Nibble) : Bool := (v &&& n) == 0#4

/-- The new register of RORC: old CY, then the old bits 3 to 1 (43_rotate_transfer.md R201). -/
def rotatedRight (v : Nibble) (cy : Bool) : Nibble := BitVec.ofBool cy ++ v.extractLsb' 1 3

end Sys2Proof.Machine
end

