-- ==== Sys2Proof/Config.lean ====
section
/-! DEFINITION. What one chip or one board fixes (00_scope.md R8), the pins, and the free values: what the source
leaves undefined and after which the machine goes on (93_implementation_defined.md, treatment "any value"). A free
value is an opaque constant applied to the number of the evaluation that draws it, so a statement about it
holds whatever it is. -/

namespace Sys2Proof

/-- The three ports (00_scope.md R18). -/
inductive Port where
  | p0b
  | p0c
  | p0d
deriving DecidableEq, Repr

/-- The eleven port pins (60_exceptions.md R283). P0B0 is also RLS_HALT and P0B1 is also RLS_STOP. -/
inductive Pin where
  | p0b0
  | p0b1
  | p0b2
  | p0c0
  | p0c1
  | p0c2
  | p0c3
  | p0d0
  | p0d1
  | p0d2
  | p0d3
deriving DecidableEq, Repr

/-- What drives a wire, seen from one side: low, high, or nothing (the 0, 1 and Z of 60_exceptions.md R284). -/
inductive Drive where
  | low
  | high
  | hiZ
deriving DecidableEq, Repr

/-- What the environment drives on each pin during one evaluation: `Ext(p, i)` and the RESET pin
(60_exceptions.md R284, R289). -/
structure Ext where
  p0b0 : Drive
  p0b1 : Drive
  p0b2 : Drive
  p0c0 : Drive
  p0c1 : Drive
  p0c2 : Drive
  p0c3 : Drive
  p0d0 : Drive
  p0d1 : Drive
  p0d2 : Drive
  p0d3 : Drive
  reset : Drive
deriving DecidableEq, Repr

/-- The four mask options: true where the built-in pull-up resistor is present (00_scope.md R8, 46_assembler.md R244). -/
structure MaskOptions where
  p0b0 : Bool
  p0b1 : Bool
  p0b2 : Bool
  reset : Bool
deriving DecidableEq, Repr

/-- The parameter `DM_UNIMPLEMENTED`: what an access to a data address the source does not describe does
(20_memory.md R65). Its values are those of 92_eei_decisions.md D6; `fault` is the spec's default (log entry 10). -/
inductive AbsentPolicy where
  | fault
  | readZeroWriteVoid
  | anyValueWriteVoid
deriving DecidableEq, Repr

/-- The level a pin shows at a sample when nothing drives it and it has no pull-up: any value, independently at
each sample (93_implementation_defined.md U6; log entry 13). -/
opaque Config.floatingPin : Nat → Pin → Bool

/-- The same for a RESET pin that nothing drives and that has no pull-up (60_exceptions.md R289; log entry 13). -/
opaque Config.floatingReset : Nat → Bool

/-- The RAM nibbles after a reset during operation: any value (93_implementation_defined.md U1, U21; log entry 7). -/
opaque Config.ramAfterReset : Nat → Fin 16 → Nibble

/-- ASR after a reset: any value (93_implementation_defined.md U2; log entry 7). -/
opaque Config.asrAfterReset : Nat → ProgAddr

/-- The port output latches after a reset: any value (93_implementation_defined.md U3; log entry 7). Port 0B uses
bits 2 to 0. -/
opaque Config.latchAfterReset : Nat → Port → Nibble

/-- What a read of an absent data address gives under the policy `anyValueWriteVoid` (92_eei_decisions.md D6;
log entry 10). -/
opaque Config.absentRead : Nat → DataAddr → Nibble

end Sys2Proof
end

