-- ==== Sys2Proof/Syntax.lean ====
section
/-! DEFINITION. The instruction set: one constructor per row of spec/opcode_table.json, in the order of 30_encoding.md
R113. The suffix RM marks the form `r, m` and MI the form `m, #n4` of the mnemonics that have both
(30_encoding.md R103, R104). -/

namespace Sys2Proof

/-- The 31 encodings of the 24 instruction kinds (30_encoding.md R113). An operand has the width of its field in
the source's legend (00_scope.md R13): addr has 11 bits, s and h have 4. -/
inductive Instr where
  /-- ADD r, m (R148) -/
  | addRM (r : RegNum) (m : DataAddr)
  /-- ADD m, #n4 (R149) -/
  | addMI (m : DataAddr) (n4 : Nibble)
  /-- ADDC r, m (R150) -/
  | addcRM (r : RegNum) (m : DataAddr)
  /-- ADDC m, #n4 (R151) -/
  | addcMI (m : DataAddr) (n4 : Nibble)
  /-- SUB r, m (R152) -/
  | subRM (r : RegNum) (m : DataAddr)
  /-- SUB m, #n4 (R153) -/
  | subMI (m : DataAddr) (n4 : Nibble)
  /-- SUBC r, m (R154) -/
  | subcRM (r : RegNum) (m : DataAddr)
  /-- SUBC m, #n4 (R155) -/
  | subcMI (m : DataAddr) (n4 : Nibble)
  /-- OR r, m (R171) -/
  | orRM (r : RegNum) (m : DataAddr)
  /-- OR m, #n4 (R172) -/
  | orMI (m : DataAddr) (n4 : Nibble)
  /-- AND r, m (R173) -/
  | andRM (r : RegNum) (m : DataAddr)
  /-- AND m, #n4 (R174) -/
  | andMI (m : DataAddr) (n4 : Nibble)
  /-- XOR r, m (R175) -/
  | xorRM (r : RegNum) (m : DataAddr)
  /-- XOR m, #n4 (R176) -/
  | xorMI (m : DataAddr) (n4 : Nibble)
  /-- SKT m, #n (R181); n is a mask (R110) -/
  | skt (m : DataAddr) (n : Nibble)
  /-- SKF m, #n (R182); n is a mask (R110) -/
  | skf (m : DataAddr) (n : Nibble)
  /-- SKE m, #n4 (R184) -/
  | ske (m : DataAddr) (n4 : Nibble)
  /-- SKNE m, #n4 (R185) -/
  | skne (m : DataAddr) (n4 : Nibble)
  /-- SKGE m, #n4 (R186) -/
  | skge (m : DataAddr) (n4 : Nibble)
  /-- SKLT m, #n4 (R187) -/
  | sklt (m : DataAddr) (n4 : Nibble)
  /-- RORC r (R201) -/
  | rorc (r : RegNum)
  /-- LD r, m (R204) -/
  | ld (r : RegNum) (m : DataAddr)
  /-- ST m, r (R205) -/
  | st (m : DataAddr) (r : RegNum)
  /-- MOV m, #n4 (R206) -/
  | mov (m : DataAddr) (n4 : Nibble)
  /-- BR addr (R211) -/
  | br (addr : BitVec 11)
  /-- CALL addr (R212) -/
  | call (addr : BitVec 11)
  /-- RET (R213) -/
  | ret
  /-- RETSK (R214) -/
  | retsk
  /-- STOP s (R232) -/
  | stop (s : Nibble)
  /-- HALT h (R231) -/
  | halt (h : Nibble)
  /-- NOP (R230) -/
  | nop
deriving DecidableEq, Repr

end Sys2Proof
end

