-- ==== Sys2Proof/WellFormed.lean ====
section
/-! DEFINITION. Which instructions exist: the operand bits the source fixes to 0 are 0 (30_encoding.md R111, R112). -/

namespace Sys2Proof

/-- The upper two bits of addr are fixed to 0 (30_encoding.md R105, R111). -/
def addrBitsZero (addr : BitVec 11) : Bool := addr.extractLsb' 9 2 == 0#2

/-- The upper three bits of a release condition are fixed to 0 (30_encoding.md R112). -/
def conditionBitsZero (c : Nibble) : Bool := c.extractLsb' 1 3 == 0#3

/-- An instruction the encoding admits: reserved operand bits are 0. -/
def Instr.wellFormed (i : Instr) : Bool :=
  match i with
  | .br addr => addrBitsZero addr
  | .call addr => addrBitsZero addr
  | .stop s => conditionBitsZero s
  | .halt h => conditionBitsZero h
  | .addRM _ _ => true
  | .addMI _ _ => true
  | .addcRM _ _ => true
  | .addcMI _ _ => true
  | .subRM _ _ => true
  | .subMI _ _ => true
  | .subcRM _ _ => true
  | .subcMI _ _ => true
  | .orRM _ _ => true
  | .orMI _ _ => true
  | .andRM _ _ => true
  | .andMI _ _ => true
  | .xorRM _ _ => true
  | .xorMI _ _ => true
  | .skt _ _ => true
  | .skf _ _ => true
  | .ske _ _ => true
  | .skne _ _ => true
  | .skge _ _ => true
  | .sklt _ _ => true
  | .rorc _ => true
  | .ld _ _ => true
  | .st _ _ => true
  | .mov _ _ => true
  | .ret => true
  | .retsk => true
  | .nop => true

end Sys2Proof
end

