-- ==== Sys2Proof/Decode.lean ====
section
/-! DEFINITION. The decoder and the encoder (30_encoding.md R100 to R120). The decoder is total on words and rejects
by name; the encoder is written from the same format tables, so that the two can be proved to agree. -/

namespace Sys2Proof

/-- Why a word is no instruction. -/
inductive Reject where
  /-- One of the six unassigned operation codes (30_encoding.md R115). -/
  | unassignedOpcode (op : BitVec 5)
  /-- Operation code 00111 with a sub-code, or an f_L field, that is not assigned (30_encoding.md R116). -/
  | unassignedSubcode (sub : BitVec 7) (low : Nibble)
  /-- BR or CALL with addr[10:9] other than 00 (30_encoding.md R117). -/
  | reservedAddressBits (addr : BitVec 11)
  /-- STOP or HALT with operand bits [3:1] other than 000 (30_encoding.md R118). -/
  | reservedConditionBits (c : Nibble)
deriving DecidableEq, Repr

/-- `op`, bits b15 to b11 (30_encoding.md R101). -/
def opField (w : Word) : BitVec 5 := w.extractLsb' 11 5

/-- `f_R` and `f_C` together, bits b10 to b4: the data address m, or the sub-code of format X
(30_encoding.md R106, R108). -/
def midField (w : Word) : BitVec 7 := w.extractLsb' 4 7

/-- `f_L`, bits b3 to b0: r, n4, n, s or h (30_encoding.md R101). -/
def lowField (w : Word) : Nibble := w.extractLsb' 0 4

/-- addr, bits b10 to b0 (30_encoding.md R111). -/
def addrField (w : Word) : BitVec 11 := w.extractLsb' 0 11

/-- The words of operation code 00111 (30_encoding.md R116). -/
def decodeSubcode (sub : BitVec 7) (low : Nibble) : Except Reject Instr :=
  match sub with
  | 0b0000111#7 => .ok (.rorc low)
  | 0b0001110#7 => if low = 0#4 then .ok .ret else .error (.unassignedSubcode sub low)
  | 0b0011110#7 => if low = 0#4 then .ok .retsk else .error (.unassignedSubcode sub low)
  | 0b0101111#7 => if conditionBitsZero low then .ok (.stop low) else .error (.reservedConditionBits low)
  | 0b0111111#7 => if conditionBitsZero low then .ok (.halt low) else .error (.reservedConditionBits low)
  | 0b1001111#7 => if low = 0#4 then .ok .nop else .error (.unassignedSubcode sub low)
  | _ => .error (.unassignedSubcode sub low)

/-- The decoder (30_encoding.md R113, R114, R120). It depends on nothing but the word. -/
def decode (w : Word) : Except Reject Instr :=
  let m := midField w
  let low := lowField w
  let addr := addrField w
  match opField w with
  | 0b00000#5 => .ok (.addRM low m)
  | 0b00001#5 => .ok (.subRM low m)
  | 0b00010#5 => .ok (.addcRM low m)
  | 0b00011#5 => .ok (.subcRM low m)
  | 0b00100#5 => .ok (.andRM low m)
  | 0b00101#5 => .ok (.xorRM low m)
  | 0b00110#5 => .ok (.orRM low m)
  | 0b00111#5 => decodeSubcode m low
  | 0b01000#5 => .ok (.ld low m)
  | 0b01001#5 => .ok (.ske m low)
  | 0b01011#5 => .ok (.skne m low)
  | 0b01100#5 => if addrBitsZero addr then .ok (.br addr) else .error (.reservedAddressBits addr)
  | 0b10000#5 => .ok (.addMI m low)
  | 0b10001#5 => .ok (.subMI m low)
  | 0b10010#5 => .ok (.addcMI m low)
  | 0b10011#5 => .ok (.subcMI m low)
  | 0b10100#5 => .ok (.andMI m low)
  | 0b10101#5 => .ok (.xorMI m low)
  | 0b10110#5 => .ok (.orMI m low)
  | 0b11000#5 => .ok (.st m low)
  | 0b11001#5 => .ok (.skge m low)
  | 0b11011#5 => .ok (.sklt m low)
  | 0b11100#5 => if addrBitsZero addr then .ok (.call addr) else .error (.reservedAddressBits addr)
  | 0b11101#5 => .ok (.mov m low)
  | 0b11110#5 => .ok (.skt m low)
  | 0b11111#5 => .ok (.skf m low)
  | op => .error (.unassignedOpcode op)

/-- Formats RM, MI and X: op, then seven bits, then four (30_encoding.md R103, R104, R106). -/
def packWord (op : BitVec 5) (mid : BitVec 7) (low : Nibble) : Word := op ++ mid ++ low

/-- Format A: op, then the eleven address bits (30_encoding.md R105). -/
def packAddr (op : BitVec 5) (addr : BitVec 11) : Word := op ++ addr

/-- The word of an instruction (30_encoding.md R113). Of an ill-formed one it is the word with the reserved bits
set, which the decoder rejects. -/
def encode (i : Instr) : Word :=
  match i with
  | .addRM r m => packWord 0b00000#5 m r
  | .addMI m n4 => packWord 0b10000#5 m n4
  | .addcRM r m => packWord 0b00010#5 m r
  | .addcMI m n4 => packWord 0b10010#5 m n4
  | .subRM r m => packWord 0b00001#5 m r
  | .subMI m n4 => packWord 0b10001#5 m n4
  | .subcRM r m => packWord 0b00011#5 m r
  | .subcMI m n4 => packWord 0b10011#5 m n4
  | .orRM r m => packWord 0b00110#5 m r
  | .orMI m n4 => packWord 0b10110#5 m n4
  | .andRM r m => packWord 0b00100#5 m r
  | .andMI m n4 => packWord 0b10100#5 m n4
  | .xorRM r m => packWord 0b00101#5 m r
  | .xorMI m n4 => packWord 0b10101#5 m n4
  | .skt m n => packWord 0b11110#5 m n
  | .skf m n => packWord 0b11111#5 m n
  | .ske m n4 => packWord 0b01001#5 m n4
  | .skne m n4 => packWord 0b01011#5 m n4
  | .skge m n4 => packWord 0b11001#5 m n4
  | .sklt m n4 => packWord 0b11011#5 m n4
  | .rorc r => packWord 0b00111#5 0b0000111#7 r
  | .ld r m => packWord 0b01000#5 m r
  | .st m r => packWord 0b11000#5 m r
  | .mov m n4 => packWord 0b11101#5 m n4
  | .br addr => packAddr 0b01100#5 addr
  | .call addr => packAddr 0b11100#5 addr
  | .ret => packWord 0b00111#5 0b0001110#7 0#4
  | .retsk => packWord 0b00111#5 0b0011110#7 0#4
  | .stop s => packWord 0b00111#5 0b0101111#7 s
  | .halt h => packWord 0b00111#5 0b0111111#7 h
  | .nop => packWord 0b00111#5 0b1001111#7 0#4

/-- A row of the instruction list: a word w is this row's when `w AND mask = pattern` (30_encoding.md R113). -/
structure OpcodeRow where
  mask : Word
  pattern : Word
deriving DecidableEq, Repr

/-- The word matches the row (30_encoding.md R113). -/
def OpcodeRow.covers (row : OpcodeRow) (w : Word) : Bool := (w &&& row.mask) == row.pattern

/-- The 31 rows of the instruction list, in its order (30_encoding.md R113). -/
def opcodeTable : List OpcodeRow :=
  [⟨0xF800#16, 0x0000#16⟩, ⟨0xF800#16, 0x8000#16⟩, ⟨0xF800#16, 0x1000#16⟩, ⟨0xF800#16, 0x9000#16⟩,
   ⟨0xF800#16, 0x0800#16⟩, ⟨0xF800#16, 0x8800#16⟩, ⟨0xF800#16, 0x1800#16⟩, ⟨0xF800#16, 0x9800#16⟩,
   ⟨0xF800#16, 0x3000#16⟩, ⟨0xF800#16, 0xB000#16⟩, ⟨0xF800#16, 0x2000#16⟩, ⟨0xF800#16, 0xA000#16⟩,
   ⟨0xF800#16, 0x2800#16⟩, ⟨0xF800#16, 0xA800#16⟩, ⟨0xF800#16, 0xF000#16⟩, ⟨0xF800#16, 0xF800#16⟩,
   ⟨0xF800#16, 0x4800#16⟩, ⟨0xF800#16, 0x5800#16⟩, ⟨0xF800#16, 0xC800#16⟩, ⟨0xF800#16, 0xD800#16⟩,
   ⟨0xFFF0#16, 0x3870#16⟩, ⟨0xF800#16, 0x4000#16⟩, ⟨0xF800#16, 0xC000#16⟩, ⟨0xF800#16, 0xE800#16⟩,
   ⟨0xFE00#16, 0x6000#16⟩, ⟨0xFE00#16, 0xE000#16⟩, ⟨0xFFFF#16, 0x38E0#16⟩, ⟨0xFFFF#16, 0x39E0#16⟩,
   ⟨0xFFFE#16, 0x3AF0#16⟩, ⟨0xFFFE#16, 0x3BF0#16⟩, ⟨0xFFFF#16, 0x3CF0#16⟩]

/-- The row of an instruction (30_encoding.md R113). -/
def opcodeRow (i : Instr) : OpcodeRow :=
  match i with
  | .addRM _ _ => ⟨0xF800#16, 0x0000#16⟩
  | .addMI _ _ => ⟨0xF800#16, 0x8000#16⟩
  | .addcRM _ _ => ⟨0xF800#16, 0x1000#16⟩
  | .addcMI _ _ => ⟨0xF800#16, 0x9000#16⟩
  | .subRM _ _ => ⟨0xF800#16, 0x0800#16⟩
  | .subMI _ _ => ⟨0xF800#16, 0x8800#16⟩
  | .subcRM _ _ => ⟨0xF800#16, 0x1800#16⟩
  | .subcMI _ _ => ⟨0xF800#16, 0x9800#16⟩
  | .orRM _ _ => ⟨0xF800#16, 0x3000#16⟩
  | .orMI _ _ => ⟨0xF800#16, 0xB000#16⟩
  | .andRM _ _ => ⟨0xF800#16, 0x2000#16⟩
  | .andMI _ _ => ⟨0xF800#16, 0xA000#16⟩
  | .xorRM _ _ => ⟨0xF800#16, 0x2800#16⟩
  | .xorMI _ _ => ⟨0xF800#16, 0xA800#16⟩
  | .skt _ _ => ⟨0xF800#16, 0xF000#16⟩
  | .skf _ _ => ⟨0xF800#16, 0xF800#16⟩
  | .ske _ _ => ⟨0xF800#16, 0x4800#16⟩
  | .skne _ _ => ⟨0xF800#16, 0x5800#16⟩
  | .skge _ _ => ⟨0xF800#16, 0xC800#16⟩
  | .sklt _ _ => ⟨0xF800#16, 0xD800#16⟩
  | .rorc _ => ⟨0xFFF0#16, 0x3870#16⟩
  | .ld _ _ => ⟨0xF800#16, 0x4000#16⟩
  | .st _ _ => ⟨0xF800#16, 0xC000#16⟩
  | .mov _ _ => ⟨0xF800#16, 0xE800#16⟩
  | .br _ => ⟨0xFE00#16, 0x6000#16⟩
  | .call _ => ⟨0xFE00#16, 0xE000#16⟩
  | .ret => ⟨0xFFFF#16, 0x38E0#16⟩
  | .retsk => ⟨0xFFFF#16, 0x39E0#16⟩
  | .stop _ => ⟨0xFFFE#16, 0x3AF0#16⟩
  | .halt _ => ⟨0xFFFE#16, 0x3BF0#16⟩
  | .nop => ⟨0xFFFF#16, 0x3CF0#16⟩

/-- The word whose low `nbits` bits are `w` and whose other bits are 0. -/
def tableWord (nbits w : Nat) : Word := BitVec.ofNat 16 (w % 2 ^ nbits)

/-- The instruction the decoder reads from an instruction whose low `nbits` bits are `w` and whose other bits are 0;
none where it rejects. -/
def decodeTableWord (nbits w : Nat) : Option Instr :=
  match decode (tableWord nbits w) with
  | .ok i => some i
  | .error _ => none

end Sys2Proof
end

