-- ==== Sys2Proof/Machine/State.lean ====
section
/-! DEFINITION. The state of the machine as plain data (10_state.md R20), the ways a step can stop
(60_exceptions.md R271), and the state right after reset (10_state.md R42, 70_reset_and_hazards.md R320). -/

namespace Sys2Proof.Machine

/-- Program memory as byte cells in one canonical form: addresses strictly rising, each below 1024. The word at
program address a has its low half at cell 2a and its high half at cell 2a+1; an unlisted cell holds no value
(log entries 1 and 2). -/
abbrev Memory := List Host.Cell

/-- The parameters of one chip (00_scope.md R8). No step changes them (20_memory.md R80). -/
structure Chip where
  rom : Memory
  options : MaskOptions
  absent : AbsentPolicy
  /-- `f_X`, the system clock oscillation frequency in hertz. No rule depends on it but the cycle time (R8;
  70_reset_and_hazards.md R342; log entry 36). -/
  fX : Nat
deriving DecidableEq, Repr

/-- What the environment presents: its drive on the pins at this evaluation, at the evaluations to come (the last
one holds on when the list is empty, log entry 11), and the number of this evaluation, which picks the free values
(log entry 14). -/
structure Env where
  now : Ext
  later : List Ext
  tick : Nat
deriving DecidableEq, Repr

/-- What ends HALT mode (10_state.md R40). -/
inductive HaltRelease where
  | resetOnly
  | p0b0
deriving DecidableEq, Repr

/-- What ends STOP mode (10_state.md R40). -/
inductive StopRelease where
  | resetOnly
  | p0b1
deriving DecidableEq, Repr

/-- The operating mode (10_state.md R40). -/
inductive Mode where
  | run
  | halt (rel : HaltRelease)
  | stop (rel : StopRelease)
deriving DecidableEq, Repr

/-- The complete state (10_state.md R20) with the chip's parameters and the environment (00_scope.md R8). -/
structure State where
  /-- Program counter (R24). -/
  pc : ProgAddr
  /-- Address stack register, the one stack level (R26). -/
  asr : ProgAddr
  /-- The spec's marker "ASR holds a return address" (R27). -/
  depth : Bool
  /-- General registers = general-purpose data memory, addresses 00H to 0FH (R21, R22). -/
  ram : Vector Nibble 16
  /-- 7EH bit 0 (R30). -/
  bcd : Bool
  /-- 7FH bit 3 (R31). -/
  cmp : Bool
  /-- 7FH bit 2 (R32). -/
  cy : Bool
  /-- 7FH bit 1 (R33). -/
  z : Bool
  /-- Output latch of port 0B (R38). -/
  latchB : BitVec 3
  /-- Output latch of port 0C (R38). -/
  latchC : Nibble
  /-- Output latch of port 0D (R38). -/
  latchD : Nibble
  /-- Direction of port 0B: true is output mode (R39). -/
  outB : Bool
  /-- Direction of port 0C (R39). -/
  outC : Bool
  /-- Direction of port 0D (R39). -/
  outD : Bool
  /-- Pending skip: the next word fetched is executed as NOP (R37). -/
  skip : Bool
  /-- Operating mode (R40). -/
  mode : Mode
  /-- The spec's marker "RESET was low at the previous evaluation" (60_exceptions.md R301). -/
  resetHeld : Bool
  /-- ROM, mask options, DM_UNIMPLEMENTED (00_scope.md R8). -/
  chip : Chip
  /-- The pins' outside (60_exceptions.md R284). -/
  env : Env
deriving DecidableEq, Repr

/-- Why a step stops. All are the spec's model-level faults (60_exceptions.md R271): the source gives no meaning, the
chip does something unknown, so stopping is safe. -/
inductive Fault where
  /-- Raised by the fetch of a word that matches no row of the instruction list, and by BR, CALL, STOP and HALT with
  reserved operand bits set (92_eei_decisions.md D4, D5). Safe. -/
  | illegalInstruction (w : Word) (pc : ProgAddr)
  /-- Raised by a read or write of a data address the source does not describe, under the policy `fault`
  (20_memory.md R65, D6). Safe. -/
  | unimplementedDataAddress (a : DataAddr) (pc : ProgAddr)
  /-- Raised by CALL with a return address already saved (44_branch_subroutine.md R212, D3). Safe. -/
  | stackOverflow (pc : ProgAddr)
  /-- Raised by RET and RETSK with no return address saved (44_branch_subroutine.md R213, R214, D3). Safe. -/
  | stackUnderflow (pc : ProgAddr)
  /-- Raised by the fetch, un-skipped, of a ROM location the program does not define (92_eei_decisions.md D11,
  93_implementation_defined.md U20; log entry 2). Safe. -/
  | undefinedProgramWord (pc : ProgAddr)
deriving DecidableEq, Repr

/-- Why a step is refused. No meaning of this model refuses. -/
inductive Refusal where
  /-- An arm of `exec` whose instruction has no meaning yet; none is left. Safe. -/
  | notModelled (mnemonic : String)
deriving DecidableEq, Repr

/-- The environment of `State.reset`: every port pin driven low, RESET driven high (log entry 12). -/
def resetExt : Ext where
  p0b0 := .low
  p0b1 := .low
  p0b2 := .low
  p0c0 := .low
  p0c1 := .low
  p0c2 := .low
  p0c3 := .low
  p0d0 := .low
  p0d1 := .low
  p0d2 := .low
  p0d3 := .low
  reset := .high

/-- The chip of `State.reset`: no program placed, no pull-up option (log entry 9), the spec's default policy
(log entry 10), the 8 MHz of the source's figure for the cycle time (log entry 36). -/
def resetChip : Chip where
  rom := []
  options := { p0b0 := false, p0b1 := false, p0b2 := false, reset := false }
  absent := .fault
  fX := 8000000

/-- The machine right after the reset event of 70_reset_and_hazards.md R320, RESET high again (log entry 8). RAM, ASR
and the latches, which the source leaves undefined, hold the values of log entries 4, 5 and 6. -/
def State.reset : State where
  pc := 0#9
  asr := 0#9
  depth := false
  ram := Vector.replicate 16 0#4
  bcd := false
  cmp := false
  cy := false
  z := false
  latchB := 0#3
  latchC := 0#4
  latchD := 0#4
  outB := false
  outC := false
  outD := false
  skip := false
  mode := .run
  resetHeld := true
  chip := resetChip
  env := { now := resetExt, later := [], tick := 0 }

/-- What a meaning answers. -/
abbrev Result := Host.Outcome State Fault Refusal

end Sys2Proof.Machine
end

