-- ==== Sys2Proof/Machine/Ops.lean ====
section
/-! DEFINITION. The named operations: updates of one component, program memory, pins and ports (60_exceptions.md R284 to
R289), the data memory (20_memory.md R64 to R67), and the events that are not instructions: the reset event
(70_reset_and_hazards.md R320) and the initialisation of STOP 0000B (45_other.md R232). This hardware takes no
exception and returns from none (60_exceptions.md R270, R278, R279); the reset event is the nearest thing. -/

namespace Sys2Proof.Machine

/-! ## Updates of one component -/

/-- The pc advances by one, modulo 512 (10_state.md R25; log entry 16). -/
def State.nextPc (s : State) : State := { s with pc := s.pc + 1#9 }

/-- The pc is loaded (10_state.md R25). -/
def State.jump (s : State) (target : ProgAddr) : State := { s with pc := target }

/-- The pending-skip flag (10_state.md R37). -/
def State.setSkip (s : State) (b : Bool) : State := { s with skip := b }

/-- A skip instruction's decision: the flag is set where the condition holds and left alone elsewhere
(42_judge_compare.md R188). -/
def State.skipIf (s : State) (cond : Bool) : State := if cond then s.setSkip true else s

/-- `x[r]` (00_scope.md R14). -/
def State.reg (s : State) (r : RegNum) : Nibble := s.ram[r.toNat]'r.isLt

/-- `x[r] <- v` (00_scope.md R14). -/
def State.setReg (s : State) (r : RegNum) (v : Nibble) : State := { s with ram := s.ram.set r.toNat v r.isLt }

/-- CY and Z after an arithmetic operation (40_arithmetic.md R147). -/
def State.setCarryZero (s : State) (cy z : Bool) : State := { s with cy := cy, z := z }

/-- CY alone, as RORC writes it (43_rotate_transfer.md R201). -/
def State.setCarry (s : State) (cy : Bool) : State := { s with cy := cy }

/-- CMP <- 0, as SKT and SKF do (42_judge_compare.md R180). -/
def State.clearCmp (s : State) : State := { s with cmp := false }

/-- A write to 7EH keeps bit 0 only (10_state.md R29). -/
def State.setBcdNibble (s : State) (v : Nibble) : State := { s with bcd := v.getLsbD 0 }

/-- A write to 7FH keeps bits 3 to 1 (10_state.md R29). -/
def State.setPsw (s : State) (v : Nibble) : State :=
  { s with cmp := v.getLsbD 3, cy := v.getLsbD 2, z := v.getLsbD 1 }

/-- A write to a port register loads the latch and makes the whole port an output; bit 3 of 71H is void
(10_state.md R38, R39; 20_memory.md R67). -/
def State.writePort (s : State) (p : Port) (v : Nibble) : State :=
  match p with
  | .p0b => { s with latchB := v.extractLsb' 0 3, outB := true }
  | .p0c => { s with latchC := v, outC := true }
  | .p0d => { s with latchD := v, outD := true }

/-- CALL saves a return address (44_branch_subroutine.md R212). -/
def State.pushReturn (s : State) (a : ProgAddr) : State := { s with asr := a, depth := true }

/-- RET and RETSK: pc <- ASR, the level is free again, ASR keeps its value (44_branch_subroutine.md R213). -/
def State.popReturn (s : State) : State := { s with pc := s.asr, depth := false }

/-- The operating mode (10_state.md R40). -/
def State.setMode (s : State) (m : Mode) : State := { s with mode := m }

/-- The marker of 60_exceptions.md R301. -/
def State.setResetHeld (s : State) (b : Bool) : State := { s with resetHeld := b }

/-- The program memory, placed from outside (log entry 3). -/
def State.setRom (s : State) (rom : Memory) : State := { s with chip := { s.chip with rom := rom } }

/-- One evaluation is over: the environment presents its next levels (60_exceptions.md R301; log entries 11, 14). -/
def Env.advance (e : Env) : Env :=
  match e.later with
  | [] => { e with tick := e.tick + 1 }
  | x :: rest => { now := x, later := rest, tick := e.tick + 1 }

/-- One evaluation is over. -/
def State.endEvaluation (s : State) : State := { s with env := s.env.advance }

/-! ## Program memory -/

/-- The byte at a cell, if the program defines it. -/
def Memory.read (m : Memory) (a : Nat) : Option Byte :=
  match m with
  | [] => none
  | (k, b) :: rest => if k = a then some b else Memory.read rest a

/-- The image with one byte placed, still in canonical form. -/
def Memory.write (m : Memory) (a : Nat) (b : Byte) : Memory :=
  match m with
  | [] => [(a, b)]
  | (k, x) :: rest =>
    if a < k then (a, b) :: (k, x) :: rest
    else if a = k then (a, b) :: rest
    else (k, x) :: Memory.write rest a b

/-- The addresses are strictly rising from `lo` on and lie in the 512 words. -/
def Memory.sortedFrom (lo : Nat) (m : Memory) : Bool :=
  match m with
  | [] => true
  | (k, _) :: rest => decide (lo ≤ k) && decide (k < 1024) && Memory.sortedFrom (k + 1) rest

/-- The canonical form. No value is what an unlisted cell reads as, so no entry can equal it. -/
def Memory.wf (m : Memory) : Bool := Memory.sortedFrom 0 m

/-- `ROM[a]`: the word at a program address, if the program defines it (20_memory.md R61; log entries 1, 2). -/
def Memory.readWord (m : Memory) (a : ProgAddr) : Option Word :=
  match Memory.read m (2 * a.toNat), Memory.read m (2 * a.toNat + 1) with
  | some lo, some hi => some (hi ++ lo)
  | _, _ => none

/-- The image with one word placed. -/
def Memory.writeWord (m : Memory) (a : ProgAddr) (w : Word) : Memory :=
  Memory.write (Memory.write m (2 * a.toNat) (w.extractLsb' 0 8)) (2 * a.toNat + 1) (w.extractLsb' 8 8)

/-- Instruction fetch at the pc (20_memory.md R60, R68). -/
def fetchWord (s : State) : Option Word := Memory.readWord s.chip.rom s.pc

/-! ## Pins -/

/-- The environment's drive on a port pin, `Ext(p, i)` (60_exceptions.md R284). -/
def extDrive (e : Ext) (p : Pin) : Drive :=
  match p with
  | .p0b0 => e.p0b0
  | .p0b1 => e.p0b1
  | .p0b2 => e.p0b2
  | .p0c0 => e.p0c0
  | .p0c1 => e.p0c1
  | .p0c2 => e.p0c2
  | .p0c3 => e.p0c3
  | .p0d0 => e.p0d0
  | .p0d1 => e.p0d1
  | .p0d2 => e.p0d2
  | .p0d3 => e.p0d3

/-- Whether the pin has a built-in pull-up: only port 0B can (60_exceptions.md R285, 46_assembler.md R244). -/
def pullUp (o : MaskOptions) (p : Pin) : Bool :=
  match p with
  | .p0b0 => o.p0b0
  | .p0b1 => o.p0b1
  | .p0b2 => o.p0b2
  | .p0c0 => false
  | .p0c1 => false
  | .p0c2 => false
  | .p0c3 => false
  | .p0d0 => false
  | .p0d1 => false
  | .p0d2 => false
  | .p0d3 => false

/-- `W(p, i)`, the level of the wire when the chip does not drive it (60_exceptions.md R288). A floating pin shows a
free value (log entry 13). -/
def wireLevel (s : State) (p : Pin) : Bool :=
  match extDrive s.env.now p with
  | .low => false
  | .high => true
  | .hiZ => if pullUp s.chip.options p then true else Config.floatingPin s.env.tick p

/-- The N-channel open-drain driver of port 0B (60_exceptions.md R286). -/
def openDrain (out latch : Bool) : Drive := if out && !latch then .low else .hiZ

/-- The push-pull driver of ports 0C and 0D (60_exceptions.md R287). -/
def pushPull (out latch : Bool) : Drive := if out then (if latch then .high else .low) else .hiZ

/-- `Out(p, i)`, the chip's own drive on a pin (60_exceptions.md R288): open drain on port 0B, push-pull on ports 0C
and 0D, nothing in input mode (R285). -/
def pinOut (s : State) (p : Pin) : Drive :=
  match p with
  | .p0b0 => openDrain s.outB (s.latchB.getLsbD 0)
  | .p0b1 => openDrain s.outB (s.latchB.getLsbD 1)
  | .p0b2 => openDrain s.outB (s.latchB.getLsbD 2)
  | .p0c0 => pushPull s.outC (s.latchC.getLsbD 0)
  | .p0c1 => pushPull s.outC (s.latchC.getLsbD 1)
  | .p0c2 => pushPull s.outC (s.latchC.getLsbD 2)
  | .p0c3 => pushPull s.outC (s.latchC.getLsbD 3)
  | .p0d0 => pushPull s.outD (s.latchD.getLsbD 0)
  | .p0d1 => pushPull s.outD (s.latchD.getLsbD 1)
  | .p0d2 => pushPull s.outD (s.latchD.getLsbD 2)
  | .p0d3 => pushPull s.outD (s.latchD.getLsbD 3)

/-- `Pin(p, i)`, the level on a pin: what the chip drives, else the wire (60_exceptions.md R284, R288; log entry 22 on
pins driven against the chip). -/
def pinLevel (s : State) (p : Pin) : Bool :=
  match pinOut s p with
  | .low => false
  | .high => true
  | .hiZ => wireLevel s p

/-- `Pin(RESET)` (60_exceptions.md R289). -/
def resetLevel (s : State) : Bool :=
  match s.env.now.reset with
  | .low => false
  | .high => true
  | .hiZ => if s.chip.options.reset then true else Config.floatingReset s.env.tick

/-- Four bits as a nibble, the most significant first. -/
def nibbleOf (b3 b2 b1 b0 : Bool) : Nibble :=
  BitVec.ofBool b3 ++ BitVec.ofBool b2 ++ BitVec.ofBool b1 ++ BitVec.ofBool b0

/-- Reading a port register gives the pins; bit 3 of 71H reads 0 (20_memory.md R66; 10_state.md R38). -/
def readPort (s : State) (p : Port) : Nibble :=
  match p with
  | .p0b => nibbleOf false (pinLevel s .p0b2) (pinLevel s .p0b1) (pinLevel s .p0b0)
  | .p0c => nibbleOf (pinLevel s .p0c3) (pinLevel s .p0c2) (pinLevel s .p0c1) (pinLevel s .p0c0)
  | .p0d => nibbleOf (pinLevel s .p0d3) (pinLevel s .p0d2) (pinLevel s .p0d1) (pinLevel s .p0d0)

/-! ## Data memory -/

/-- What stands at a data address (20_memory.md R64). -/
inductive Place where
  | ram (r : RegNum)
  | port (p : Port)
  | bcdNibble
  | psw
  | absent
deriving DecidableEq, Repr

/-- The data-memory map (20_memory.md R64). -/
def place (m : DataAddr) : Place :=
  if m < 0x10#7 then .ram (m.extractLsb' 0 4)
  else if m = 0x71#7 then .port .p0b
  else if m = 0x72#7 then .port .p0c
  else if m = 0x73#7 then .port .p0d
  else if m = 0x7E#7 then .bcdNibble
  else if m = 0x7F#7 then .psw
  else .absent

/-- The data address of a general register: row 0 (10_state.md R22). -/
def regAddr (r : RegNum) : DataAddr := 0b000#3 ++ r

/-- Reading 7EH (10_state.md R29). -/
def bcdNibble (s : State) : Nibble := nibbleOf false false false s.bcd

/-- Reading 7FH (10_state.md R29). -/
def pswNibble (s : State) : Nibble := nibbleOf s.cmp s.cy s.z false

/-- A read of an address the source does not describe, by the policy (20_memory.md R65; log entry 10). -/
def readAbsent (s : State) (m : DataAddr) : Except Fault Nibble :=
  match s.chip.absent with
  | .fault => .error (.unimplementedDataAddress m s.pc)
  | .readZeroWriteVoid => .ok 0#4
  | .anyValueWriteVoid => .ok (Config.absentRead s.env.tick m)

/-- A write to an address the source does not describe, by the policy (20_memory.md R65; log entry 10). -/
def writeAbsent (s : State) (m : DataAddr) : Except Fault State :=
  match s.chip.absent with
  | .fault => .error (.unimplementedDataAddress m s.pc)
  | .readZeroWriteVoid => .ok s
  | .anyValueWriteVoid => .ok s

/-- `MemRead(m, 1)` (20_memory.md R66). -/
def memRead (s : State) (m : DataAddr) : Except Fault Nibble :=
  match place m with
  | .ram r => .ok (s.reg r)
  | .port p => .ok (readPort s p)
  | .bcdNibble => .ok (bcdNibble s)
  | .psw => .ok (pswNibble s)
  | .absent => readAbsent s m

/-- `MemWrite(m, 1, v)` (20_memory.md R67). -/
def memWrite (s : State) (m : DataAddr) (v : Nibble) : Except Fault State :=
  match place m with
  | .ram r => .ok (s.setReg r v)
  | .port p => .ok (s.writePort p v)
  | .bcdNibble => .ok (s.setBcdNibble v)
  | .psw => .ok (s.setPsw v)
  | .absent => writeAbsent s m

/-- Go on with what an access gave, or stop with its fault. -/
def onOk {α : Type} (x : Except Fault α) (k : α → Result) : Result :=
  match x with
  | .ok a => k a
  | .error f => .fault f

/-! ## Events -/

/-- The RAM nibbles after a reset during operation: free values (93_implementation_defined.md U1, U21). -/
def freeRam (tick : Nat) : Vector Nibble 16 := Vector.ofFn (Config.ramAfterReset tick)

/-- The state the peripheral circuits and the CPU return to at STOP 0000B (45_other.md R232): pc and flags 0, all ports
input, no pending skip, no return address; RAM, latches and ASR as they were. -/
def State.initialise (s : State) : State :=
  { s with
    pc := 0#9
    bcd := false
    cmp := false
    cy := false
    z := false
    outB := false
    outC := false
    outD := false
    depth := false
    skip := false }

/-- The reset event (70_reset_and_hazards.md R320): RAM is held where the chip was in a standby mode and undefined
elsewhere (R321); latches and ASR are undefined (log entry 7). -/
def resetEvent (s : State) : State :=
  { s.initialise with
    ram := if s.mode = .run then freeRam s.env.tick else s.ram
    latchB := (Config.latchAfterReset s.env.tick .p0b).extractLsb' 0 3
    latchC := Config.latchAfterReset s.env.tick .p0c
    latchD := Config.latchAfterReset s.env.tick .p0d
    asr := Config.asrAfterReset s.env.tick
    mode := .run }

/-- The system clock oscillator runs in every mode but STOP (10_state.md R44; 60_exceptions.md R281, R290). -/
def oscillating (s : State) : Bool :=
  match s.mode with
  | .run => true
  | .halt _ => true
  | .stop _ => false

end Sys2Proof.Machine
end

