-- ==== Sys2Proof/Machine/Operands.lean ====
section
/-! DEFINITION. The operand forms and the execution shapes the instruction families share: operands are latched before
anything is written (00_scope.md R15; 20_memory.md R68, R77). -/

namespace Sys2Proof.Machine

/-- The temporary registers A (the data to be processed, first operand) and B (the data to process with, second
operand) of one operation (10_state.md R41; 40_arithmetic.md R141). They hold nothing between instructions. -/
structure AluInput where
  a : Nibble
  b : Nibble
deriving DecidableEq, Repr

/-- Form `r, m`: A is the general register, B the data memory (40_arithmetic.md R140). -/
def operandsRM (s : State) (r : RegNum) (m : DataAddr) : Except Fault AluInput :=
  match memRead s m with
  | .ok b => .ok { a := s.reg r, b := b }
  | .error f => .error f

/-- Form `m, #n4`: A is the data memory, B the immediate (40_arithmetic.md R140). -/
def operandsMI (s : State) (m : DataAddr) (n4 : Nibble) : Except Fault AluInput :=
  match memRead s m with
  | .ok a => .ok { a := a, b := n4 }
  | .error f => .error f

/-- Store a nibble at a data address and go on to the next instruction. -/
def storeAt (s : State) (d : DataAddr) (v : Nibble) : Result := onOk (memWrite s d v) fun t => .next t.nextPc

/-- `ArithExec` (40_arithmetic.md R147): BCD and CMP as they are at the start, CY always updated, Z by its rule, and
the store last, only where CMP is 0 (log entry 21). -/
def arithExec (dir : Direction) (d : DataAddr) (x : AluInput) (c : Bool) (s : State) : Result :=
  let out := aluOut s.bcd dir x.a x.b c
  let s' := s.setCarryZero out.carry (zeroAfter s.cmp s.z out.value)
  if s.cmp then .next s'.nextPc else storeAt s' d out.value

/-- An arithmetic instruction of form `r, m`. -/
def arithRM (dir : Direction) (r : RegNum) (m : DataAddr) (c : Bool) (s : State) : Result :=
  onOk (operandsRM s r m) fun x => arithExec dir (regAddr r) x c s

/-- An arithmetic instruction of form `m, #n4`. -/
def arithMI (dir : Direction) (m : DataAddr) (n4 : Nibble) (c : Bool) (s : State) : Result :=
  onOk (operandsMI s m n4) fun x => arithExec dir m x c s

/-- A logical instruction of form `r, m`: stored whatever CMP is, no flag read or written (41_logical.md R170). -/
def logicRM (f : Nibble → Nibble → Nibble) (r : RegNum) (m : DataAddr) (s : State) : Result :=
  onOk (operandsRM s r m) fun x => .next (s.setReg r (f x.a x.b)).nextPc

/-- A logical instruction of form `m, #n4` (41_logical.md R170). -/
def logicMI (f : Nibble → Nibble → Nibble) (m : DataAddr) (n4 : Nibble) (s : State) : Result :=
  onOk (operandsMI s m n4) fun x => storeAt s m (f x.a x.b)

/-- A bit test: the operand is read, CMP is cleared, the condition decides the skip (42_judge_compare.md R180;
log entry 19). -/
def judge (cond : Nibble → Nibble → Bool) (m : DataAddr) (n : Nibble) (s : State) : Result :=
  onOk (operandsMI s m n) fun x => .next ((s.clearCmp.skipIf (cond x.a x.b)).nextPc)

/-- A comparison: the condition decides the skip and nothing else changes (42_judge_compare.md R183). -/
def compareWith (cond : Nibble → Nibble → Bool) (m : DataAddr) (n4 : Nibble) (s : State) : Result :=
  onOk (operandsMI s m n4) fun x => .next ((s.skipIf (cond x.a x.b)).nextPc)

end Sys2Proof.Machine
end

