-- ==== Sys2Proof/Machine/Arithmetic.lean ====
section
/-! DEFINITION. The eight arithmetic instructions (40_arithmetic.md R148 to R155). -/

namespace Sys2Proof.Machine

/-- ADD r, m (R148). -/
def execAddRM (r : RegNum) (m : DataAddr) (s : State) : Result := arithRM .add r m false s

/-- ADD m, #n4 (R149). -/
def execAddMI (m : DataAddr) (n4 : Nibble) (s : State) : Result := arithMI .add m n4 false s

/-- ADDC r, m (R150). -/
def execAddcRM (r : RegNum) (m : DataAddr) (s : State) : Result := arithRM .add r m s.cy s

/-- ADDC m, #n4 (R151). -/
def execAddcMI (m : DataAddr) (n4 : Nibble) (s : State) : Result := arithMI .add m n4 s.cy s

/-- SUB r, m (R152). -/
def execSubRM (r : RegNum) (m : DataAddr) (s : State) : Result := arithRM .sub r m false s

/-- SUB m, #n4 (R153). -/
def execSubMI (m : DataAddr) (n4 : Nibble) (s : State) : Result := arithMI .sub m n4 false s

/-- SUBC r, m (R154). -/
def execSubcRM (r : RegNum) (m : DataAddr) (s : State) : Result := arithRM .sub r m s.cy s

/-- SUBC m, #n4 (R155). -/
def execSubcMI (m : DataAddr) (n4 : Nibble) (s : State) : Result := arithMI .sub m n4 s.cy s

end Sys2Proof.Machine
end

