-- ==== Sys2Proof/Machine/Branch.lean ====
section
/-! DEFINITION. BR, CALL, RET and RETSK (44_branch_subroutine.md R211 to R214). -/

namespace Sys2Proof.Machine

/-- The nine address bits the pc receives (30_encoding.md R111). -/
def branchTarget (addr : BitVec 11) : ProgAddr := addr.extractLsb' 0 9

/-- BR addr (R211). -/
def execBr (addr : BitVec 11) (s : State) : Result :=
  if addrBitsZero addr then .next (s.jump (branchTarget addr))
  else .fault (.illegalInstruction (encode (.br addr)) s.pc)

/-- CALL addr (R212): the address after the CALL is saved (log entry 15); a second level faults (log entry 17). -/
def execCall (addr : BitVec 11) (s : State) : Result :=
  if !addrBitsZero addr then .fault (.illegalInstruction (encode (.call addr)) s.pc)
  else if s.depth then .fault (.stackOverflow s.pc)
  else .next ((s.pushReturn (s.pc + 1#9)).jump (branchTarget addr))

/-- RET (R213). -/
def execRet (s : State) : Result := if s.depth then .next s.popReturn else .fault (.stackUnderflow s.pc)

/-- RETSK (R214). -/
def execRetsk (s : State) : Result :=
  if s.depth then .next (s.popReturn.setSkip true) else .fault (.stackUnderflow s.pc)

end Sys2Proof.Machine
end

