-- ==== Sys2Proof/Machine/Judge.lean ====
section
/-! DEFINITION. The two bit tests and the four comparisons (42_judge_compare.md R181, R182, R184 to R187). -/

namespace Sys2Proof.Machine

/-- SKT m, #n (R181). -/
def execSkt (m : DataAddr) (n : Nibble) (s : State) : Result := judge allTrue m n s

/-- SKF m, #n (R182). -/
def execSkf (m : DataAddr) (n : Nibble) (s : State) : Result := judge allFalse m n s

/-- SKE m, #n4 (R184). -/
def execSke (m : DataAddr) (n4 : Nibble) (s : State) : Result := compareWith (fun v n => v == n) m n4 s

/-- SKNE m, #n4 (R185). -/
def execSkne (m : DataAddr) (n4 : Nibble) (s : State) : Result := compareWith (fun v n => v != n) m n4 s

/-- SKGE m, #n4 (R186): unsigned. -/
def execSkge (m : DataAddr) (n4 : Nibble) (s : State) : Result := compareWith (fun v n => decide (n ≤ v)) m n4 s

/-- SKLT m, #n4 (R187): unsigned. -/
def execSklt (m : DataAddr) (n4 : Nibble) (s : State) : Result := compareWith (fun v n => decide (v < n)) m n4 s

end Sys2Proof.Machine
end

