-- ==== Sys2Proof/Machine/Logical.lean ====
section
/-! DEFINITION. The six logical instructions (41_logical.md R171 to R176). -/

namespace Sys2Proof.Machine

/-- OR r, m (R171). -/
def execOrRM (r : RegNum) (m : DataAddr) (s : State) : Result := logicRM (· ||| ·) r m s

/-- OR m, #n4 (R172). -/
def execOrMI (m : DataAddr) (n4 : Nibble) (s : State) : Result := logicMI (· ||| ·) m n4 s

/-- AND r, m (R173). -/
def execAndRM (r : RegNum) (m : DataAddr) (s : State) : Result := logicRM (· &&& ·) r m s

/-- AND m, #n4 (R174). -/
def execAndMI (m : DataAddr) (n4 : Nibble) (s : State) : Result := logicMI (· &&& ·) m n4 s

/-- XOR r, m (R175). -/
def execXorRM (r : RegNum) (m : DataAddr) (s : State) : Result := logicRM (· ^^^ ·) r m s

/-- XOR m, #n4 (R176). -/
def execXorMI (m : DataAddr) (n4 : Nibble) (s : State) : Result := logicMI (· ^^^ ·) m n4 s

end Sys2Proof.Machine
end

