-- ==== Sys2Proof/Machine/Other.lean ====
section
/-! DEFINITION. NOP, HALT and STOP (45_other.md R230 to R232). -/

namespace Sys2Proof.Machine

/-- NOP (R230). -/
def execNop (s : State) : Result := .next s.nextPc

/-- HALT h (R231): unconditional for h = 0000B; for h = 0001B entered with P0B0 low, a NOP with P0B0 high. -/
def execHalt (h : Nibble) (s : State) : Result :=
  if !conditionBitsZero h then .fault (.illegalInstruction (encode (.halt h)) s.pc)
  else if !h.getLsbD 0 then .next (s.nextPc.setMode (.halt .resetOnly))
  else if pinLevel s .p0b0 then .next s.nextPc
  else .next (s.nextPc.setMode (.halt .p0b0))

/-- STOP s (R232): s = 0000B initialises the state and stops; for s = 0001B entered with P0B1 low, a NOP with P0B1
high. -/
def execStop (c : Nibble) (s : State) : Result :=
  if !conditionBitsZero c then .fault (.illegalInstruction (encode (.stop c)) s.pc)
  else if !c.getLsbD 0 then .next (s.initialise.setMode (.stop .resetOnly))
  else if pinLevel s .p0b1 then .next s.nextPc
  else .next (s.nextPc.setMode (.stop .p0b1))

end Sys2Proof.Machine
end

