-- ==== Sys2Proof/Machine/RotateTransfer.lean ====
section
/-! DEFINITION. RORC, LD, ST and MOV (43_rotate_transfer.md R201, R204 to R206). -/

namespace Sys2Proof.Machine

/-- RORC r (R201): stored whatever CMP is; Z unchanged. -/
def execRorc (r : RegNum) (s : State) : Result :=
  .next ((s.setReg r (rotatedRight (s.reg r) s.cy)).setCarry ((s.reg r).getLsbD 0)).nextPc

/-- LD r, m (R204). -/
def execLd (r : RegNum) (m : DataAddr) (s : State) : Result := onOk (memRead s m) fun v => .next (s.setReg r v).nextPc

/-- ST m, r (R205). -/
def execSt (m : DataAddr) (r : RegNum) (s : State) : Result := storeAt s m (s.reg r)

/-- MOV m, #n4 (R206): m is not read. -/
def execMov (m : DataAddr) (n4 : Nibble) (s : State) : Result := storeAt s m n4

end Sys2Proof.Machine
end

