-- ==== Sys2Proof/Machine/Dispatch.lean ====
section
/-! DEFINITION. exec: one arm per constructor of Instr, each one direct call of that instruction's meaning. -/

namespace Sys2Proof.Machine

def exec (i : Instr) (s : State) : Host.Outcome State Fault Refusal :=
  match i with
  | .addRM r m => Sys2Proof.Machine.execAddRM r m s
  | .addMI m n4 => Sys2Proof.Machine.execAddMI m n4 s
  | .addcRM r m => Sys2Proof.Machine.execAddcRM r m s
  | .addcMI m n4 => Sys2Proof.Machine.execAddcMI m n4 s
  | .subRM r m => Sys2Proof.Machine.execSubRM r m s
  | .subMI m n4 => Sys2Proof.Machine.execSubMI m n4 s
  | .subcRM r m => Sys2Proof.Machine.execSubcRM r m s
  | .subcMI m n4 => Sys2Proof.Machine.execSubcMI m n4 s
  | .orRM r m => Sys2Proof.Machine.execOrRM r m s
  | .orMI m n4 => Sys2Proof.Machine.execOrMI m n4 s
  | .andRM r m => Sys2Proof.Machine.execAndRM r m s
  | .andMI m n4 => Sys2Proof.Machine.execAndMI m n4 s
  | .xorRM r m => Sys2Proof.Machine.execXorRM r m s
  | .xorMI m n4 => Sys2Proof.Machine.execXorMI m n4 s
  | .skt m n => Sys2Proof.Machine.execSkt m n s
  | .skf m n => Sys2Proof.Machine.execSkf m n s
  | .ske m n4 => Sys2Proof.Machine.execSke m n4 s
  | .skne m n4 => Sys2Proof.Machine.execSkne m n4 s
  | .skge m n4 => Sys2Proof.Machine.execSkge m n4 s
  | .sklt m n4 => Sys2Proof.Machine.execSklt m n4 s
  | .rorc r => Sys2Proof.Machine.execRorc r s
  | .ld r m => Sys2Proof.Machine.execLd r m s
  | .st m r => Sys2Proof.Machine.execSt m r s
  | .mov m n4 => Sys2Proof.Machine.execMov m n4 s
  | .br addr => Sys2Proof.Machine.execBr addr s
  | .call addr => Sys2Proof.Machine.execCall addr s
  | .ret => Sys2Proof.Machine.execRet s
  | .retsk => Sys2Proof.Machine.execRetsk s
  | .stop c => Sys2Proof.Machine.execStop c s
  | .halt h => Sys2Proof.Machine.execHalt h s
  | .nop => Sys2Proof.Machine.execNop s

end Sys2Proof.Machine
end

