-- ==== Sys2Proof/Machine/Cycle.lean ====
section
/-! DEFINITION. One evaluation of the machine: the instruction cycle (00_scope.md R15), reset, standby and release
(60_exceptions.md R301). -/

namespace Sys2Proof.Machine

/-- The instruction cycle in RUN mode (00_scope.md R15): a pending skip makes the slot a NOP whatever its word is
(10_state.md R37); else fetch, decode, execute (order of checks: 60_exceptions.md R272). -/
def cpuStep (s : State) : Result :=
  if s.skip then .next (s.setSkip false).nextPc
  else
    match fetchWord s with
    | none => .fault (.undefinedProgramWord s.pc)
    | some w =>
      match decode w with
      | .error _ => .fault (.illegalInstruction w s.pc)
      | .ok i => exec i s

/-- RESET is low: the reset event happens once per low period, and the state is then held (60_exceptions.md R301). -/
def whileResetLow (s : State) : State := if s.resetHeld then s else (resetEvent s).setResetHeld true

/-- RESET is high: run, or wait for the release pin of the standby mode (60_exceptions.md R295, R297, R298, R301). -/
def whileResetHigh (s : State) : Result :=
  match s.mode with
  | .run => cpuStep s
  | .halt .p0b0 => .next (if pinLevel s .p0b0 then s.setMode .run else s)
  | .halt .resetOnly => .next s
  | .stop .p0b1 => .next (if pinLevel s .p0b1 then s.setMode .run else s)
  | .stop .resetOnly => .next s

/-- One evaluation on the pin levels of this evaluation: RESET comes before everything (60_exceptions.md R276, R301). -/
def evaluate (s : State) : Result :=
  if resetLevel s then whileResetHigh (s.setResetHeld false) else .next (whileResetLow s)

/-- The environment moves on between evaluations (60_exceptions.md R301). -/
def thenAdvance (r : Result) : Result :=
  match r with
  | .next s => .next s.endEvaluation
  | .fault f => .fault f
  | .refused x => .refused x

/-- The state in which the CPU runs and fetches the word `w` next: `w` stands at the pc, RESET is high, the mode is RUN
and no skip is pending (log entry 3). -/
def placedAtFetch (s : State) (w : Word) : State :=
  { (((s.setRom (Memory.writeWord s.chip.rom s.pc w)).setMode .run).setSkip false) with
    env := { s.env with now := { s.env.now with reset := .high } } }

/-- `t_CY = 16 / f_X`, the time of one instruction, a skipped one included, in nanoseconds rounded down
(70_reset_and_hazards.md R342; log entries 31, 36). -/
def cycleNanoseconds (c : Chip) : Nat := 16 * 1000000000 / c.fX

end Sys2Proof.Machine
end

