-- ==== Sys2Proof/Machine/Step.lean ====
section
/-! DEFINITION. The step of the whole machine (60_exceptions.md R301) and where it fetches its next instruction. -/

namespace Sys2Proof.Machine

/-- One evaluation, after which the environment presents its next levels (60_exceptions.md R301). -/
def step (s : State) : Host.Outcome State Fault Refusal := thenAdvance (evaluate s)

/-- `s` with the instruction whose low `nbits` bits are `w` placed where the next step fetches (log entry 3). -/
def State.withFetchWord (s : State) (nbits w : Nat) : State := placedAtFetch s (tableWord nbits w)

end Sys2Proof.Machine
end

