-- ==== Sys2Proof/Machine/Assembler.lean ====
section
/-! DEFINITION. The assembler's words the source describes beside the instructions (46_assembler.md): the reserved symbols,
the mask-option definition block and the built-in macros, each macro standing for one machine instruction. -/

namespace Sys2Proof.Machine

/-- One bit of one data-memory nibble, a FLG-type symbol's value (46_assembler.md R243). -/
structure FlagRef where
  addr : DataAddr
  bit : Fin 4
deriving DecidableEq, Repr

/-- The flag's bit mask (46_assembler.md R248, last column). -/
def FlagRef.mask (f : FlagRef) : Nibble := 1#4 <<< f.bit.val

/-- The reserved symbols of the device file, and `RPL`, which the source's example uses (46_assembler.md R248, R249). -/
inductive ReservedSymbol where
  | pob0
  | pob1
  | pob2
  | pob3
  | poc0
  | poc1
  | poc2
  | poc3
  | pod0
  | pod1
  | pod2
  | pod3
  | bcd
  | psw
  | z
  | cy
  | cmp
  | rpl
deriving DecidableEq, Repr

/-- The two symbol types (46_assembler.md R243). -/
inductive SymbolValue where
  | flg (f : FlagRef)
  | mem (m : DataAddr)
deriving DecidableEq, Repr

/-- Table 9-2, the values (46_assembler.md R248, R249). -/
def reservedValue (x : ReservedSymbol) : SymbolValue :=
  match x with
  | .pob0 => .flg ⟨0x71#7, 0⟩
  | .pob1 => .flg ⟨0x71#7, 1⟩
  | .pob2 => .flg ⟨0x71#7, 2⟩
  | .pob3 => .flg ⟨0x71#7, 3⟩
  | .poc0 => .flg ⟨0x72#7, 0⟩
  | .poc1 => .flg ⟨0x72#7, 1⟩
  | .poc2 => .flg ⟨0x72#7, 2⟩
  | .poc3 => .flg ⟨0x72#7, 3⟩
  | .pod0 => .flg ⟨0x73#7, 0⟩
  | .pod1 => .flg ⟨0x73#7, 1⟩
  | .pod2 => .flg ⟨0x73#7, 2⟩
  | .pod3 => .flg ⟨0x73#7, 3⟩
  | .bcd => .flg ⟨0x7E#7, 0⟩
  | .psw => .mem 0x7F#7
  | .z => .flg ⟨0x7F#7, 1⟩
  | .cy => .flg ⟨0x7F#7, 2⟩
  | .cmp => .flg ⟨0x7F#7, 3⟩
  | .rpl => .mem 0x7E#7

/-- Table 9-2, the R/W column: false where it says R (46_assembler.md R248). For `RPL` the table has no row; its
example writes it (R249). -/
def reservedWritable (x : ReservedSymbol) : Bool :=
  match x with
  | .pob3 => false
  | .pob0 => true
  | .pob1 => true
  | .pob2 => true
  | .poc0 => true
  | .poc1 => true
  | .poc2 => true
  | .poc3 => true
  | .pod0 => true
  | .pod1 => true
  | .pod2 => true
  | .pod3 => true
  | .bcd => true
  | .psw => true
  | .z => true
  | .cy => true
  | .cmp => true
  | .rpl => true

/-- The built-in macros; the digit n of a mnemonic is the number of its operands (46_assembler.md R250). In INITFLG an
operand is written NOT where its Bool is true. -/
inductive BuiltinMacro where
  | sktN (flags : List FlagRef)
  | skfN (flags : List FlagRef)
  | setN (flags : List FlagRef)
  | clrN (flags : List FlagRef)
  | notN (flags : List FlagRef)
  | initflg (flags : List (Bool × FlagRef))
deriving DecidableEq, Repr

/-- The OR of the flags' bit masks (46_assembler.md R258). -/
def flagMask (flags : List FlagRef) : Nibble :=
  match flags with
  | [] => 0#4
  | f :: rest => f.mask ||| flagMask rest

/-- The nibble all flags lie in and their combined mask, for one to four flags of one nibble; none elsewhere, where the
source gives no expansion (46_assembler.md R258; 93_implementation_defined.md U15). -/
def oneNibble (flags : List FlagRef) : Option (DataAddr × Nibble) :=
  match flags with
  | [] => none
  | f :: rest =>
    if rest.length < 4 ∧ rest.all (fun g => g.addr == f.addr) then some (f.addr, flagMask (f :: rest)) else none

/-- The nibble INITFLG stores: 1 at each flag written plain (46_assembler.md R258). -/
def initValue (flags : List (Bool × FlagRef)) : Nibble :=
  flagMask ((flags.filter fun x => !x.1).map fun x => x.2)

/-- The instruction a macro stands for (46_assembler.md R258; log entry 33); none where the source gives no expansion. -/
def expandMacro (x : BuiltinMacro) : Option Instr :=
  match x with
  | .sktN flags => (oneNibble flags).map fun p => .skt p.1 p.2
  | .skfN flags => (oneNibble flags).map fun p => .skf p.1 p.2
  | .setN flags => (oneNibble flags).map fun p => .orMI p.1 p.2
  | .clrN flags => (oneNibble flags).map fun p => .andMI p.1 (15#4 ^^^ p.2)
  | .notN flags => (oneNibble flags).map fun p => .xorMI p.1 p.2
  | .initflg flags =>
    match oneNibble (flags.map fun x => x.2) with
    | some (m, mask) => if mask = 15#4 then some (.mov m (initValue flags)) else none
    | none => none

/-- An operand of OPTPOB or OPTRES (46_assembler.md R246). -/
inductive PullOperand where
  /-- `POBPLUP` or `RESPLUP`: with pull-up resistor. -/
  | pullUp
  /-- `OPEN`: without. -/
  | noPullUp
deriving DecidableEq, Repr

/-- The presence of the resistor. -/
def PullOperand.present (x : PullOperand) : Bool :=
  match x with
  | .pullUp => true
  | .noPullUp => false

/-- A line of the mask-option definition block; OPTPOB's operands go from P0B2 down (46_assembler.md R246). -/
inductive OptionLine where
  | optPob (p0b2 p0b1 p0b0 : PullOperand)
  | optRes (reset : PullOperand)
deriving DecidableEq, Repr

/-- The mask options an OPTION ... ENDOP block sets; every one of the four pins must be given (46_assembler.md R244 to
R247). It emits no instruction word (R245). That a block with a repeated OPTPOB or OPTRES is refused, and that the two
lines may stand in either order, is the model's choice: the spec gives neither (R262; DESIGN CHOICE, log entry 37). -/
def maskOptionBlock (lines : List OptionLine) : Option MaskOptions :=
  match lines with
  | [.optPob b2 b1 b0, .optRes r] => some ⟨b0.present, b1.present, b2.present, r.present⟩
  | [.optRes r, .optPob b2 b1 b0] => some ⟨b0.present, b1.present, b2.present, r.present⟩
  | _ => none

end Sys2Proof.Machine
end

