-- ==== Sys2Proof/Safety.lean ====
section
/-! DEFINITION. What a good run is: fault-free runs, finished runs, and the invariant of the machine, in the terms the
statements use (60_exceptions.md R271; 92_eei_decisions.md D18). -/

namespace Sys2Proof.Machine

/-- `n` evaluations from `s` answer `t`. -/
def RunsTo (n : Nat) (s t : State) : Prop := Host.Core.run Sys2Proof.core n s = .next t

/-- The first `n` evaluations from `s` meet no fault (60_exceptions.md R271). -/
def FaultFree (n : Nat) (s : State) : Prop := ∀ f, Host.Core.run Sys2Proof.core n s ≠ .fault f

/-- The environment holds RESET high now and at every evaluation to come. -/
def NoResetAhead (e : Env) : Prop := e.now.reset = .high ∧ ∀ x ∈ e.later, x.reset = .high

/-- Standby that only RESET ends (60_exceptions.md R295). -/
def WaitsForReset (s : State) : Prop := s.mode = .halt .resetOnly ∨ s.mode = .stop .resetOnly

/-- The run is over (92_eei_decisions.md D18). -/
def Finished (s : State) : Prop := WaitsForReset s ∧ NoResetAhead s.env

/-- The registers a reset or STOP 0000B clears are clear (10_state.md R42, R44). -/
def Cleared (s : State) : Prop :=
  s.pc = 0#9 ∧ s.bcd = false ∧ s.cmp = false ∧ s.cy = false ∧ s.z = false ∧ s.outB = false ∧ s.outC = false ∧
    s.outD = false ∧ s.depth = false ∧ s.skip = false

/-- What holds of every state a run meets: the program image is in canonical form, no skip is pending in standby
(45_other.md R231), STOP 0000B left everything clear (10_state.md R44), and a state held in reset is clear and in
mode RUN (70_reset_and_hazards.md R320). -/
def Inv (s : State) : Prop :=
  Memory.wf s.chip.rom = true ∧ (s.mode ≠ .run → s.skip = false) ∧ (s.mode = .stop .resetOnly → Cleared s) ∧
    (s.resetHeld = true → s.mode = .run ∧ Cleared s)

end Sys2Proof.Machine
end

