-- ==== Sys2Proof/Certificates/Slice0/Obligations.lean ====
section
/-! DEFINITION. The statements for the provers. Each is about the machine, not about a program. The vocabulary they
share stands first, in terms of the state's fields. -/

namespace Sys2Proof.Claims

open Sys2Proof.Machine

/-! ## Frames -/

/-- The stack register, its marker, the mode, the reset marker, the chip (with the program memory) and the environment
are as before. -/
def ControlKept (s t : State) : Prop :=
  t.asr = s.asr ∧ t.depth = s.depth ∧ t.mode = s.mode ∧ t.resetHeld = s.resetHeld ∧ t.chip = s.chip ∧ t.env = s.env

/-- The four flags are as before. -/
def FlagsKept (s t : State) : Prop := t.bcd = s.bcd ∧ t.cmp = s.cmp ∧ t.cy = s.cy ∧ t.z = s.z

/-- Every port latch and direction is as before. -/
def PortsKept (s t : State) : Prop :=
  t.latchB = s.latchB ∧ t.latchC = s.latchC ∧ t.latchD = s.latchD ∧ t.outB = s.outB ∧ t.outC = s.outC ∧
    t.outD = s.outD

/-- Every RAM nibble, that is every general register, reads as before. -/
def RegsKept (s t : State) : Prop := ∀ k, t.reg k = s.reg k

/-- One RAM nibble holds `v` and every other reads as before. -/
def RegWritten (s t : State) (r : RegNum) (v : Nibble) : Prop := t.reg r = v ∧ ∀ k, k ≠ r → t.reg k = s.reg k

/-- The pc has advanced by one word and no skip was decided. -/
def Advanced (s t : State) : Prop := t.pc = s.pc + 1#9 ∧ t.skip = s.skip

/-- The pc has advanced by one word and a skip is pending where the condition holds. -/
def AdvancedSkipping (s t : State) (cond : Prop) : Prop := t.pc = s.pc + 1#9 ∧ (t.skip = true ↔ s.skip = true ∨ cond)

/-- The data addresses the source describes (20_memory.md R64). -/
def Implemented (m : DataAddr) : Prop :=
  m.toNat ≤ 0x0F ∨ m = 0x71#7 ∨ m = 0x72#7 ∨ m = 0x73#7 ∨ m = 0x7E#7 ∨ m = 0x7F#7

/-- The nibble `v` has been stored at data address `m`, and everything else in the data memory is as before
(20_memory.md R67). -/
def Stored (s t : State) (m : DataAddr) (v : Nibble) : Prop :=
  (∀ r, m = regAddr r → RegWritten s t r v ∧ FlagsKept s t ∧ PortsKept s t) ∧
  (m = 0x71#7 → t.latchB = v.extractLsb' 0 3 ∧ t.outB = true ∧ t.latchC = s.latchC ∧ t.outC = s.outC ∧
    t.latchD = s.latchD ∧ t.outD = s.outD ∧ RegsKept s t ∧ FlagsKept s t) ∧
  (m = 0x72#7 → t.latchC = v ∧ t.outC = true ∧ t.latchB = s.latchB ∧ t.outB = s.outB ∧
    t.latchD = s.latchD ∧ t.outD = s.outD ∧ RegsKept s t ∧ FlagsKept s t) ∧
  (m = 0x73#7 → t.latchD = v ∧ t.outD = true ∧ t.latchB = s.latchB ∧ t.outB = s.outB ∧
    t.latchC = s.latchC ∧ t.outC = s.outC ∧ RegsKept s t ∧ FlagsKept s t) ∧
  (m = 0x7E#7 → t.bcd = v.getLsbD 0 ∧ t.cmp = s.cmp ∧ t.cy = s.cy ∧ t.z = s.z ∧ RegsKept s t ∧ PortsKept s t) ∧
  (m = 0x7F#7 → t.cmp = v.getLsbD 3 ∧ t.cy = v.getLsbD 2 ∧ t.z = v.getLsbD 1 ∧ t.bcd = s.bcd ∧ RegsKept s t ∧
    PortsKept s t) ∧
  (¬ Implemented m → RegsKept s t ∧ FlagsKept s t ∧ PortsKept s t)

/-- The instruction stops on data address `m` when the source does not describe it and the policy is the spec's
default (20_memory.md R65; the default is decision D6, log entry 10). -/
def StopsOnAbsent (i : Instr) (m : DataAddr) : Prop :=
  ∀ s : State, ¬ Implemented m → s.chip.absent = .fault → exec i s = .fault (.unimplementedDataAddress m s.pc)

/-- The instruction stops exactly as its read of data address `m` does (20_memory.md R65, R66). -/
def StopsWithRead (i : Instr) (m : DataAddr) : Prop :=
  ∀ (s : State) (f : Fault), memRead s m = .error f → exec i s = .fault f ∧ f = .unimplementedDataAddress m s.pc

/-- The instruction stops exactly as its write of data address `m` does (20_memory.md R65, R67). -/
def StopsWithWrite (i : Instr) (m : DataAddr) : Prop :=
  ∀ (s : State) (v : Nibble) (f : Fault), memWrite s m v = .error f →
    exec i s = .fault f ∧ f = .unimplementedDataAddress m s.pc

/-! ## Families -/

/-- The four arithmetic mnemonics. -/
inductive ArithOp where
  | add
  | addc
  | sub
  | subc
deriving DecidableEq, Repr

/-- The form `r, m`. -/
def ArithOp.reg (op : ArithOp) (r : RegNum) (m : DataAddr) : Instr :=
  match op with
  | .add => .addRM r m
  | .addc => .addcRM r m
  | .sub => .subRM r m
  | .subc => .subcRM r m

/-- The form `m, #n4`. -/
def ArithOp.imm (op : ArithOp) (m : DataAddr) (n : Nibble) : Instr :=
  match op with
  | .add => .addMI m n
  | .addc => .addcMI m n
  | .sub => .subMI m n
  | .subc => .subcMI m n

/-- The raw result, an exact integer; ADD and SUB ignore CY (40_arithmetic.md R143). -/
def ArithOp.raw (op : ArithOp) (a b : Nibble) (cy : Bool) : Int :=
  match op with
  | .add => (a.toNat : Int) + b.toNat
  | .addc => (a.toNat : Int) + b.toNat + (if cy then 1 else 0)
  | .sub => (a.toNat : Int) - b.toNat
  | .subc => (a.toNat : Int) - b.toNat - (if cy then 1 else 0)

/-- SUB and SUBC. -/
def ArithOp.subtracts (op : ArithOp) : Bool :=
  match op with
  | .add => false
  | .addc => false
  | .sub => true
  | .subc => true

/-- What the ALU answers for a raw result in binary mode (40_arithmetic.md R144). -/
def BinaryResult (t : Int) (cy : Bool) (res : Nibble) : Prop :=
  (cy = true ↔ 15 < t ∨ t < 0) ∧ (res.toNat : Int) = t % 16

/-- What the ALU answers for a raw result in decimal mode: the closed form in the valid range (40_arithmetic.md R146)
and the remaining rows of Table 5-2 (R145). -/
def DecimalResult (subtracts : Bool) (t : Int) (cy : Bool) (res : Nibble) : Prop :=
  (cy = true ↔ 9 < t ∨ t < 0) ∧
  (0 ≤ t → t ≤ 9 → (res.toNat : Int) = t) ∧
  (subtracts = false → 10 ≤ t → t ≤ 19 → (res.toNat : Int) = t - 10) ∧
  (subtracts = true → -10 ≤ t → t ≤ -1 → (res.toNat : Int) = t + 10) ∧
  (subtracts = false → 20 ≤ t → t ≤ 31 →
    res.toNat = [14, 15, 12, 13, 14, 15, 12, 13, 10, 11, 8, 9].getD (t - 20).toNat 0) ∧
  (subtracts = true → 10 ≤ t → t ≤ 15 → res.toNat = [12, 13, 14, 15, 12, 13].getD (t - 10).toNat 0) ∧
  (subtracts = true → -16 ≤ t → t ≤ -11 → res.toNat = [14, 15, 12, 13, 14, 15].getD (t + 16).toNat 0)

/-- The carry and digit of an operation in the mode the BCD flag selects. -/
def ArithResult (bcd : Bool) (op : ArithOp) (t : Int) (cy : Bool) (res : Nibble) : Prop :=
  if bcd then DecimalResult op.subtracts t cy res else BinaryResult t cy res

/-- The three logical mnemonics. -/
inductive LogicOp where
  | or
  | and
  | xor
deriving DecidableEq, Repr

/-- The form `r, m`. -/
def LogicOp.reg (op : LogicOp) (r : RegNum) (m : DataAddr) : Instr :=
  match op with
  | .or => .orRM r m
  | .and => .andRM r m
  | .xor => .xorRM r m

/-- The form `m, #n4`. -/
def LogicOp.imm (op : LogicOp) (m : DataAddr) (n : Nibble) : Instr :=
  match op with
  | .or => .orMI m n
  | .and => .andMI m n
  | .xor => .xorMI m n

/-- The truth table (41_logical.md R170, Table 5-5). -/
def LogicOp.bit (op : LogicOp) (a b : Bool) : Bool :=
  match op with
  | .or => a || b
  | .and => a && b
  | .xor => a != b

/-- The result bit by bit. -/
def LogicResult (op : LogicOp) (a b res : Nibble) : Prop :=
  ∀ k, k < 4 → res.getLsbD k = op.bit (a.getLsbD k) (b.getLsbD k)

/-- The operation codes of the form `r, m` (30_encoding.md R113, rows 9, 11, 13). -/
def LogicOp.regCode (op : LogicOp) : BitVec 5 :=
  match op with
  | .or => 0b00110#5
  | .and => 0b00100#5
  | .xor => 0b00101#5

/-- The operation codes of the form `m, #n4` (30_encoding.md R113, rows 10, 12, 14). -/
def LogicOp.immCode (op : LogicOp) : BitVec 5 :=
  match op with
  | .or => 0b10110#5
  | .and => 0b10100#5
  | .xor => 0b10101#5

/-- The four comparison mnemonics. -/
inductive CompareOp where
  | ske
  | skne
  | skge
  | sklt
deriving DecidableEq, Repr

/-- The instruction. -/
def CompareOp.instr (op : CompareOp) (m : DataAddr) (n : Nibble) : Instr :=
  match op with
  | .ske => .ske m n
  | .skne => .skne m n
  | .skge => .skge m n
  | .sklt => .sklt m n

/-- The operation codes (30_encoding.md R113, rows 17 to 20). -/
def CompareOp.code (op : CompareOp) : BitVec 5 :=
  match op with
  | .ske => 0b01001#5
  | .skne => 0b01011#5
  | .skge => 0b11001#5
  | .sklt => 0b11011#5

/-- When it skips, on unsigned values 0 to 15 (42_judge_compare.md R184 to R187). -/
def CompareOp.skips (op : CompareOp) (v n : Nibble) : Prop :=
  match op with
  | .ske => v.toNat = n.toNat
  | .skne => v.toNat ≠ n.toNat
  | .skge => n.toNat ≤ v.toNat
  | .sklt => v.toNat < n.toNat

/-! ## Operands of an instruction, as syntax -/

/-- The data address an instruction names through its m field (20_memory.md R68). -/
def dataOperand (i : Instr) : Option DataAddr :=
  match i with
  | .addRM _ m => some m
  | .addMI m _ => some m
  | .addcRM _ m => some m
  | .addcMI m _ => some m
  | .subRM _ m => some m
  | .subMI m _ => some m
  | .subcRM _ m => some m
  | .subcMI m _ => some m
  | .orRM _ m => some m
  | .orMI m _ => some m
  | .andRM _ m => some m
  | .andMI m _ => some m
  | .xorRM _ m => some m
  | .xorMI m _ => some m
  | .skt m _ => some m
  | .skf m _ => some m
  | .ske m _ => some m
  | .skne m _ => some m
  | .skge m _ => some m
  | .sklt m _ => some m
  | .rorc _ => none
  | .ld _ m => some m
  | .st m _ => some m
  | .mov m _ => some m
  | .br _ => none
  | .call _ => none
  | .ret => none
  | .retsk => none
  | .stop _ => none
  | .halt _ => none
  | .nop => none

/-- The data address an instruction may store to (20_memory.md R68). -/
def destination (i : Instr) : Option DataAddr :=
  match i with
  | .addRM r _ => some (regAddr r)
  | .addMI m _ => some m
  | .addcRM r _ => some (regAddr r)
  | .addcMI m _ => some m
  | .subRM r _ => some (regAddr r)
  | .subMI m _ => some m
  | .subcRM r _ => some (regAddr r)
  | .subcMI m _ => some m
  | .orRM r _ => some (regAddr r)
  | .orMI m _ => some m
  | .andRM r _ => some (regAddr r)
  | .andMI m _ => some m
  | .xorRM r _ => some (regAddr r)
  | .xorMI m _ => some m
  | .skt _ _ => none
  | .skf _ _ => none
  | .ske _ _ => none
  | .skne _ _ => none
  | .skge _ _ => none
  | .sklt _ _ => none
  | .rorc r => some (regAddr r)
  | .ld r _ => some (regAddr r)
  | .st m _ => some m
  | .mov m _ => some m
  | .br _ => none
  | .call _ => none
  | .ret => none
  | .retsk => none
  | .stop _ => none
  | .halt _ => none
  | .nop => none

/-- One of the eight arithmetic instructions. -/
def IsArithmetic (i : Instr) : Prop := ∃ op : ArithOp, (∃ r m, i = op.reg r m) ∨ (∃ m n, i = op.imm m n)

/-- STOP 0000B. -/
def IsStopZero (i : Instr) : Prop := i = .stop 0#4

/-! ## Pins -/

/-- The port a pin belongs to (60_exceptions.md R283). -/
def portOf (p : Pin) : Port :=
  match p with
  | .p0b0 => .p0b
  | .p0b1 => .p0b
  | .p0b2 => .p0b
  | .p0c0 => .p0c
  | .p0c1 => .p0c
  | .p0c2 => .p0c
  | .p0c3 => .p0c
  | .p0d0 => .p0d
  | .p0d1 => .p0d
  | .p0d2 => .p0d
  | .p0d3 => .p0d

/-- The pin's bit number in its port (20_memory.md R70). -/
def bitOf (p : Pin) : Nat :=
  match p with
  | .p0b0 => 0
  | .p0b1 => 1
  | .p0b2 => 2
  | .p0c0 => 0
  | .p0c1 => 1
  | .p0c2 => 2
  | .p0c3 => 3
  | .p0d0 => 0
  | .p0d1 => 1
  | .p0d2 => 2
  | .p0d3 => 3

/-- `outmode[p]` (10_state.md R39). -/
def outMode (s : State) (p : Port) : Bool :=
  match p with
  | .p0b => s.outB
  | .p0c => s.outC
  | .p0d => s.outD

/-- The latch bit of a pin (10_state.md R38). -/
def latchBit (s : State) (p : Pin) : Bool :=
  match portOf p with
  | .p0b => s.latchB.getLsbD (bitOf p)
  | .p0c => s.latchC.getLsbD (bitOf p)
  | .p0d => s.latchD.getLsbD (bitOf p)

/-- The chip's drive on a port pin and the pin's level, by direction and latch (60_exceptions.md R285 to R288). -/
def PinByDirectionAndLatch (s : State) (p : Pin) : Prop :=
  (outMode s (portOf p) = false → pinOut s p = .hiZ ∧ pinLevel s p = wireLevel s p) ∧
  (portOf p = .p0b → outMode s .p0b = true → latchBit s p = false → pinOut s p = .low ∧ pinLevel s p = false) ∧
  (portOf p = .p0b → outMode s .p0b = true → latchBit s p = true →
    pinOut s p = .hiZ ∧ pinLevel s p = wireLevel s p) ∧
  (portOf p ≠ .p0b → outMode s (portOf p) = true →
    pinOut s p = (if latchBit s p then .high else .low) ∧ pinLevel s p = latchBit s p) ∧
  (extDrive s.env.now p = .low → wireLevel s p = false) ∧
  (extDrive s.env.now p = .high → wireLevel s p = true) ∧
  (extDrive s.env.now p = .hiZ → pullUp s.chip.options p = true → wireLevel s p = true)

/-! ## States that cannot be told apart -/

/-- Equal but for what nothing can observe: the latch of a port in input mode, and ASR with no return address saved
(10_state.md R42; 93_implementation_defined.md U2, U3). -/
def Alike (s t : State) : Prop :=
  t.pc = s.pc ∧ t.depth = s.depth ∧ t.ram = s.ram ∧ FlagsKept s t ∧ t.outB = s.outB ∧ t.outC = s.outC ∧
    t.outD = s.outD ∧ t.skip = s.skip ∧ t.mode = s.mode ∧ t.resetHeld = s.resetHeld ∧ t.chip = s.chip ∧
    t.env = s.env ∧ (s.outB = true → t.latchB = s.latchB) ∧ (s.outC = true → t.latchC = s.latchC) ∧
    (s.outD = true → t.latchD = s.latchD) ∧ (s.depth = true → t.asr = s.asr)

/-- Two outcomes that cannot be told apart. -/
def AlikeOutcomes (x y : Result) : Prop :=
  match x with
  | .next s => ∃ t, y = .next t ∧ Alike s t
  | .fault f => y = .fault f
  | .refused q => y = .refused q

/-! ## Macros -/

/-- A flag a store keeps as it is written: any bit of a RAM nibble, BCD, or one of Z, CY, CMP (10_state.md R21, R29). The
port flags are none: SETn, CLRn and NOTn on them read the pins (46_assembler.md R260). -/
def StoredFlag (f : FlagRef) : Prop :=
  f.addr.toNat ≤ 0x0F ∨ (f.addr = 0x7E#7 ∧ f.bit = 0) ∨ (f.addr = 0x7F#7 ∧ f.bit ≠ 0)

/-- The macro expands to an instruction that stores `w` at data address `m`, where `w` is then read, and changes nothing
else. -/
def ReplacesNibble (x : BuiltinMacro) (s : State) (m : DataAddr) (w : Nibble) : Prop :=
  ∃ i t, expandMacro x = some i ∧ exec i s = .next t ∧ memRead t m = .ok w ∧ Stored s t m w ∧ ControlKept s t ∧
    Advanced s t

/-- The macro expands to an instruction that clears CMP, leaves a skip pending where the condition holds, and changes
nothing else. -/
def SkipsWhen (x : BuiltinMacro) (s : State) (cond : Prop) : Prop :=
  ∃ i t, expandMacro x = some i ∧ exec i s = .next t ∧ AdvancedSkipping s t cond ∧ t.cmp = false ∧ t.bcd = s.bcd ∧
    t.cy = s.cy ∧ t.z = s.z ∧ RegsKept s t ∧ PortsKept s t ∧ ControlKept s t

end Sys2Proof.Claims

open Sys2Proof Sys2Proof.Machine Sys2Proof.Claims

/-! ## Encoding -/

/-- Decoding the word of any well-formed instruction gives it back, with every operand at every value
(30_encoding.md R113). -/
def Obligations.DecodeInvertsEncode : Prop := ∀ i : Instr, i.wellFormed = true → decode (encode i) = .ok i

/-- A word that decodes is the word of the instruction it decodes to, and that instruction is well formed: every defined
instruction has exactly one encoding (30_encoding.md R119). -/
def Obligations.EncodeInvertsDecode : Prop :=
  ∀ (w : Word) (i : Instr), decode w = .ok i → encode i = w ∧ i.wellFormed = true

/-- The decoder accepts exactly the words some row of the instruction list covers, no word is covered twice, and the
instruction read is that row's (30_encoding.md R113, R120). -/
def Obligations.DecodeAgreesWithOpcodeTable : Prop :=
  (∀ w : Word, (∃ i, decode w = .ok i) ↔ ∃ row ∈ opcodeTable, row.covers w = true) ∧
  (∀ w : Word, ∀ p ∈ opcodeTable, ∀ q ∈ opcodeTable, p.covers w = true → q.covers w = true → p = q) ∧
  (∀ (w : Word) (i : Instr), decode w = .ok i → opcodeRow i ∈ opcodeTable ∧ (opcodeRow i).covers w = true)

/-- Words written out from the spec's encodings decode to the instructions they stand for (95_test_vectors.md
V-SRC-18). -/
def Obligations.WrittenOutWordsDecode : Prop :=
  decode 0b0000011010100101#16 = .ok (.addRM 0x5#4 0x6A#7) ∧
  decode 0b1010011100011011#16 = .ok (.andMI 0x71#7 0b1011#4) ∧
  decode 0b1111111111110100#16 = .ok (.skf 0x7F#7 0b0100#4) ∧
  decode 0b0011100001111001#16 = .ok (.rorc 0x9#4) ∧
  decode 0b1100011100111011#16 = .ok (.st 0x73#7 0xB#4) ∧
  decode 0b0110000110100101#16 = .ok (.br 0x1A5#11) ∧
  decode 0b0011100111100000#16 = .ok .retsk ∧
  decode 0b0011101011110001#16 = .ok (.stop 0b0001#4)

/-! ## The step -/

/-- With RESET high, in RUN mode and with no skip pending, a step runs the decoded instruction: the reset marker goes to
0, the instruction has its effect, the environment presents its next levels; a fault of the instruction is the
step's (00_scope.md R15; 60_exceptions.md R301). -/
def Obligations.StepRunsDecodedInstruction : Prop :=
  ∀ (s : State) (w : Word) (i : Instr), resetLevel s = true → s.mode = .run → s.skip = false →
    fetchWord s = some w → decode w = .ok i →
    (∀ t, exec i { s with resetHeld := false } = .next t → step s = .next { t with env := t.env.advance }) ∧
    (∀ f, exec i { s with resetHeld := false } = .fault f → step s = .fault f)

/-- A pending skip makes the slot a NOP whatever stands there, an unassigned word or none included (10_state.md R37; for
unassigned words the spec's decision D24, log entry 34). -/
def Obligations.PendingSkipMakesSlotNop : Prop :=
  ∀ s : State, resetLevel s = true → s.mode = .run → s.skip = true →
    step s = .next { s with skip := false, pc := s.pc + 1#9, resetHeld := false, env := s.env.advance }

/-- An unassigned or reserved word stops the step that would execute it: the six unassigned operation codes, the
unassigned sub-codes of 00111, reserved address bits and reserved condition bits (the spec's decisions D4 and D5,
log entry 18). -/
def Obligations.UnassignedWordStopsTheStep : Prop :=
  ∀ (s : State) (w : Word), resetLevel s = true → s.mode = .run → s.skip = false → fetchWord s = some w →
    (w.extractLsb' 11 5 ∈ [0b01010#5, 0b01101#5, 0b01110#5, 0b01111#5, 0b10111#5, 0b11010#5] ∨
      (w.extractLsb' 11 5 = 0b00111#5 ∧ w.extractLsb' 4 12 ≠ 0x387#12 ∧
        w ∉ [0x38E0#16, 0x39E0#16, 0x3AF0#16, 0x3AF1#16, 0x3BF0#16, 0x3BF1#16, 0x3CF0#16]) ∨
      ((w.extractLsb' 11 5 = 0b01100#5 ∨ w.extractLsb' 11 5 = 0b11100#5) ∧ w.extractLsb' 9 2 ≠ 0#2)) →
    step s = .fault (.illegalInstruction w s.pc)

/-- Every step moves the environment on by one: the next levels if some are listed, else the last ones hold (the model's
own representation of the pin levels over time, log entries 11 and 14). -/
def Obligations.EveryStepAdvancesEnvironment : Prop :=
  ∀ s t : State, step s = .next t →
    t.env.tick = s.env.tick + 1 ∧ (s.env.later = [] → t.env.now = s.env.now ∧ t.env.later = []) ∧
    (∀ x rest, s.env.later = x :: rest → t.env.now = x ∧ t.env.later = rest)

/-! ## Data memory and pins -/

/-- `MemRead` follows the data-memory map: RAM, pins, BCD, PSW, and the policy elsewhere (20_memory.md R66). -/
def Obligations.DataReadFollowsMap : Prop :=
  ∀ s : State,
    (∀ r, memRead s (regAddr r) = .ok (s.reg r)) ∧
    (∃ v, memRead s 0x71#7 = .ok v ∧ v.getLsbD 3 = false ∧ v.getLsbD 2 = pinLevel s .p0b2 ∧
      v.getLsbD 1 = pinLevel s .p0b1 ∧ v.getLsbD 0 = pinLevel s .p0b0) ∧
    (∃ v, memRead s 0x72#7 = .ok v ∧ v.getLsbD 3 = pinLevel s .p0c3 ∧ v.getLsbD 2 = pinLevel s .p0c2 ∧
      v.getLsbD 1 = pinLevel s .p0c1 ∧ v.getLsbD 0 = pinLevel s .p0c0) ∧
    (∃ v, memRead s 0x73#7 = .ok v ∧ v.getLsbD 3 = pinLevel s .p0d3 ∧ v.getLsbD 2 = pinLevel s .p0d2 ∧
      v.getLsbD 1 = pinLevel s .p0d1 ∧ v.getLsbD 0 = pinLevel s .p0d0) ∧
    (∃ v, memRead s 0x7E#7 = .ok v ∧ v.getLsbD 3 = false ∧ v.getLsbD 2 = false ∧ v.getLsbD 1 = false ∧
      v.getLsbD 0 = s.bcd) ∧
    (∃ v, memRead s 0x7F#7 = .ok v ∧ v.getLsbD 3 = s.cmp ∧ v.getLsbD 2 = s.cy ∧ v.getLsbD 1 = s.z ∧
      v.getLsbD 0 = false) ∧
    (∀ m, ¬ Implemented m →
      (s.chip.absent = .fault → memRead s m = .error (.unimplementedDataAddress m s.pc)) ∧
      (s.chip.absent = .readZeroWriteVoid → memRead s m = .ok 0#4) ∧
      (s.chip.absent = .anyValueWriteVoid → ∃ v, memRead s m = .ok v))

/-- `MemWrite` follows the data-memory map: the nibble goes to RAM, to a port's latch (which makes the whole port an
output), to BCD or to CMP, CY and Z; elsewhere the policy holds; nothing else changes (20_memory.md R67). -/
def Obligations.DataWriteFollowsMap : Prop :=
  ∀ (s : State) (m : DataAddr) (v : Nibble),
    (Implemented m → ∃ t, memWrite s m v = .ok t ∧ Stored s t m v ∧ ControlKept s t ∧ t.pc = s.pc ∧ t.skip = s.skip) ∧
    (¬ Implemented m → s.chip.absent = .fault → memWrite s m v = .error (.unimplementedDataAddress m s.pc)) ∧
    (¬ Implemented m → s.chip.absent ≠ .fault → memWrite s m v = .ok s)

/-- What a read gives right after a write: RAM gives the value written, 7EH and 7FH the bits that exist, ports 0C and 0D
(push-pull) the value written, port 0B (open drain) low where a 0 was written and the wire elsewhere
(20_memory.md R74, 60_exceptions.md R286, R287). -/
def Obligations.ReadAfterWrite : Prop :=
  ∀ (s t : State) (m : DataAddr) (v : Nibble), memWrite s m v = .ok t →
    (m.toNat ≤ 0x0F → memRead t m = .ok v) ∧
    (m = 0x7E#7 → memRead t m = .ok (v &&& 0b0001#4)) ∧
    (m = 0x7F#7 → memRead t m = .ok (v &&& 0b1110#4)) ∧
    (m = 0x72#7 → memRead t m = .ok v) ∧
    (m = 0x73#7 → memRead t m = .ok v) ∧
    (m = 0x71#7 → ∃ x, memRead t m = .ok x ∧ x.getLsbD 3 = false ∧
      x.getLsbD 2 = (v.getLsbD 2 && wireLevel s .p0b2) ∧ x.getLsbD 1 = (v.getLsbD 1 && wireLevel s .p0b1) ∧
      x.getLsbD 0 = (v.getLsbD 0 && wireLevel s .p0b0))

/-- The chip's drive on a pin and the pin's level, by direction and latch: high impedance in input mode, open drain on
port 0B, push-pull on ports 0C and 0D; an undriven wire takes the external level, or the pull-up's on port 0B
(60_exceptions.md R285 to R288). The RESET pin reads low where it is driven low, high where it is driven high, and high
where nothing drives it and its pull-up option is chosen (R289). -/
def Obligations.PinDriveAndLevel : Prop :=
  ∀ s : State,
    (∀ p : Pin, PinByDirectionAndLatch s p) ∧
    (s.env.now.reset = .low → resetLevel s = false) ∧
    (s.env.now.reset = .high → resetLevel s = true) ∧
    (s.env.now.reset = .hiZ → s.chip.options.reset = true → resetLevel s = true)

/-! ## Arithmetic -/

/-- ADD, ADDC, SUB, SUBC `r, m` with CMP = 0: the digit goes to the register, CY and Z follow the result, in binary or
decimal by BCD; nothing else changes (40_arithmetic.md R143 to R148, R150, R152, R154; Z on the corrected digit is the
spec's decision D8, log entry 20). -/
def Obligations.ArithmeticRegisterForms : Prop :=
  ∀ (op : ArithOp) (r : RegNum) (m : DataAddr) (s : State) (b : Nibble), memRead s m = .ok b → s.cmp = false →
    ∃ cy res t, ArithResult s.bcd op (op.raw (s.reg r) b s.cy) cy res ∧ exec (op.reg r m) s = .next t ∧
      RegWritten s t r res ∧ t.cy = cy ∧ (t.z = true ↔ res = 0#4) ∧ t.bcd = s.bcd ∧ t.cmp = s.cmp ∧
      PortsKept s t ∧ ControlKept s t ∧ Advanced s t

/-- ADD, ADDC, SUB, SUBC `m, #n4` with CMP = 0: CY and Z are updated, then the digit is stored at m, so a store to 7FH
overrides them; nothing else changes (40_arithmetic.md R147, R149, R151, R153, R155; the order is the spec's decision
D9, log entry 21, and Z on the corrected digit its decision D8, log entry 20). -/
def Obligations.ArithmeticMemoryForms : Prop :=
  ∀ (op : ArithOp) (m : DataAddr) (n : Nibble) (s : State) (a : Nibble), memRead s m = .ok a → s.cmp = false →
    ∃ cy res t, ArithResult s.bcd op (op.raw a n s.cy) cy res ∧ exec (op.imm m n) s = .next t ∧
      Stored { s with cy := cy, z := decide (res = 0#4) } t m res ∧ ControlKept s t ∧ Advanced s t

/-- All eight arithmetic forms with CMP = 1: nothing is stored, CY follows the result, Z is cleared by a result other
than 0 and kept by 0 (10_state.md R31 to R33, R36; Z on the corrected digit is the spec's decision D8, log entry 20). -/
def Obligations.CompareModeStoresNothing : Prop :=
  ∀ (op : ArithOp) (r : RegNum) (m : DataAddr) (n : Nibble) (s : State) (v : Nibble), memRead s m = .ok v →
    s.cmp = true →
    (∃ cy res t, ArithResult s.bcd op (op.raw (s.reg r) v s.cy) cy res ∧ exec (op.reg r m) s = .next t ∧
      t.cy = cy ∧ (t.z = true ↔ s.z = true ∧ res = 0#4) ∧ t.bcd = s.bcd ∧ t.cmp = true ∧ RegsKept s t ∧
      PortsKept s t ∧ ControlKept s t ∧ Advanced s t) ∧
    (∃ cy res t, ArithResult s.bcd op (op.raw v n s.cy) cy res ∧ exec (op.imm m n) s = .next t ∧
      t.cy = cy ∧ (t.z = true ↔ s.z = true ∧ res = 0#4) ∧ t.bcd = s.bcd ∧ t.cmp = true ∧ RegsKept s t ∧
      PortsKept s t ∧ ControlKept s t ∧ Advanced s t)

/-- Arithmetic on the PSWORD with CMP = 0: at 7FH the stored digit is what CMP, CY and Z show, whatever the operation
carried; at 7EH BCD takes bit 0 of the digit while CY and Z follow the operation (10_state.md R35, 40_arithmetic.md
R156; the order is the spec's decision D9, log entry 21, and that Z at 7EH is judged on the corrected digit its decision
D8, log entry 20). -/
def Obligations.ArithmeticOnPswStoresTheResult : Prop :=
  ∀ (op : ArithOp) (n : Nibble) (s : State), s.cmp = false →
    (∃ a cy res t, memRead s 0x7F#7 = .ok a ∧ ArithResult s.bcd op (op.raw a n s.cy) cy res ∧
      exec (op.imm 0x7F#7 n) s = .next t ∧ t.cmp = res.getLsbD 3 ∧ t.cy = res.getLsbD 2 ∧ t.z = res.getLsbD 1 ∧
      t.bcd = s.bcd) ∧
    (∃ a cy res t, memRead s 0x7E#7 = .ok a ∧ ArithResult s.bcd op (op.raw a n s.cy) cy res ∧
      exec (op.imm 0x7E#7 n) s = .next t ∧ t.bcd = res.getLsbD 0 ∧ t.cmp = false ∧ t.cy = cy ∧
      (t.z = true ↔ res = 0#4))

/-- `ADDC r, r` in binary mode with CMP = 0 rotates the register left through carry (43_rotate_transfer.md R202). -/
def Obligations.AddcToItselfRotatesLeft : Prop :=
  ∀ (r : RegNum) (s : State), s.bcd = false → s.cmp = false →
    ∃ t, exec (.addcRM r (regAddr r)) s = .next t ∧ (t.reg r).getLsbD 0 = s.cy ∧
      (t.reg r).getLsbD 1 = (s.reg r).getLsbD 0 ∧ (t.reg r).getLsbD 2 = (s.reg r).getLsbD 1 ∧
      (t.reg r).getLsbD 3 = (s.reg r).getLsbD 2 ∧ t.cy = (s.reg r).getLsbD 3

/-! ## Logic -/

/-- OR, AND, XOR `r, m`: their words, the result bit by bit in the register whatever BCD and CMP are, no flag written,
and where they stop (41_logical.md R171, R173, R175). -/
def Obligations.LogicalRegisterForms : Prop :=
  ∀ (op : LogicOp) (r : RegNum) (m : DataAddr),
    decode (op.regCode ++ m ++ r) = .ok (op.reg r m) ∧
    (∀ (s : State) (b : Nibble), memRead s m = .ok b →
      ∃ res t, LogicResult op (s.reg r) b res ∧ exec (op.reg r m) s = .next t ∧ RegWritten s t r res ∧
        FlagsKept s t ∧ PortsKept s t ∧ ControlKept s t ∧ Advanced s t) ∧
    StopsWithRead (op.reg r m) m

/-- OR, AND, XOR `m, #n4`: their words, the result bit by bit stored at m whatever BCD and CMP are, no flag written
unless m is 7EH or 7FH, and where they stop (41_logical.md R172, R174, R176). -/
def Obligations.LogicalMemoryForms : Prop :=
  ∀ (op : LogicOp) (m : DataAddr) (n : Nibble),
    decode (op.immCode ++ m ++ n) = .ok (op.imm m n) ∧
    (∀ (s : State) (a : Nibble), memRead s m = .ok a →
      ∃ res t, LogicResult op a n res ∧ exec (op.imm m n) s = .next t ∧ Stored s t m res ∧ ControlKept s t ∧
        Advanced s t) ∧
    StopsWithRead (op.imm m n) m

/-- A logical read-modify-write on a port reads the pins, not the latch, and loads the whole latch, making the port an
output (20_memory.md R75). -/
def Obligations.PortReadModifyWriteLoadsThePins : Prop :=
  ∀ (op : LogicOp) (n : Nibble) (s : State),
    (∃ t, exec (op.imm 0x71#7 n) s = .next t ∧ t.outB = true ∧
      t.latchB.getLsbD 2 = op.bit (pinLevel s .p0b2) (n.getLsbD 2) ∧
      t.latchB.getLsbD 1 = op.bit (pinLevel s .p0b1) (n.getLsbD 1) ∧
      t.latchB.getLsbD 0 = op.bit (pinLevel s .p0b0) (n.getLsbD 0)) ∧
    (∃ t, exec (op.imm 0x72#7 n) s = .next t ∧ t.outC = true ∧
      t.latchC.getLsbD 3 = op.bit (pinLevel s .p0c3) (n.getLsbD 3) ∧
      t.latchC.getLsbD 2 = op.bit (pinLevel s .p0c2) (n.getLsbD 2) ∧
      t.latchC.getLsbD 1 = op.bit (pinLevel s .p0c1) (n.getLsbD 1) ∧
      t.latchC.getLsbD 0 = op.bit (pinLevel s .p0c0) (n.getLsbD 0)) ∧
    (∃ t, exec (op.imm 0x73#7 n) s = .next t ∧ t.outD = true ∧
      t.latchD.getLsbD 3 = op.bit (pinLevel s .p0d3) (n.getLsbD 3) ∧
      t.latchD.getLsbD 2 = op.bit (pinLevel s .p0d2) (n.getLsbD 2) ∧
      t.latchD.getLsbD 1 = op.bit (pinLevel s .p0d1) (n.getLsbD 1) ∧
      t.latchD.getLsbD 0 = op.bit (pinLevel s .p0d0) (n.getLsbD 0))

/-! ## Tests and comparisons -/

/-- SKT and SKF: CMP is cleared, a skip is pending when every selected bit is 1 (SKT) or 0 (SKF), nothing else changes
(42_judge_compare.md R181, R182; that 7FH is read before CMP is cleared is the spec's decision D7, log entry 19). -/
def Obligations.BitTestsClearCmpAndSkip : Prop :=
  ∀ (m : DataAddr) (n : Nibble) (s : State) (v : Nibble), memRead s m = .ok v →
    (∃ t, exec (.skt m n) s = .next t ∧ t.cmp = false ∧ t.bcd = s.bcd ∧ t.cy = s.cy ∧ t.z = s.z ∧
      AdvancedSkipping s t (∀ k, k < 4 → n.getLsbD k = true → v.getLsbD k = true) ∧
      RegsKept s t ∧ PortsKept s t ∧ ControlKept s t) ∧
    (∃ t, exec (.skf m n) s = .next t ∧ t.cmp = false ∧ t.bcd = s.bcd ∧ t.cy = s.cy ∧ t.z = s.z ∧
      AdvancedSkipping s t (∀ k, k < 4 → n.getLsbD k = true → v.getLsbD k = false) ∧
      RegsKept s t ∧ PortsKept s t ∧ ControlKept s t)

/-- SKE, SKNE, SKGE, SKLT: their words, when they skip on unsigned values, no flag read or written, and where they stop
(42_judge_compare.md R184 to R187). -/
def Obligations.ComparisonsSkip : Prop :=
  ∀ (op : CompareOp) (m : DataAddr) (n : Nibble),
    decode (op.code ++ m ++ n) = .ok (op.instr m n) ∧
    (∀ (s : State) (v : Nibble), memRead s m = .ok v →
      ∃ t, exec (op.instr m n) s = .next t ∧ AdvancedSkipping s t (op.skips v n) ∧ FlagsKept s t ∧
        RegsKept s t ∧ PortsKept s t ∧ ControlKept s t) ∧
    StopsWithRead (op.instr m n) m

/-! ## Rotate and transfer -/

/-- RORC r: its word, CY into b3, every bit one place down, b0 into CY, whatever BCD and CMP are; Z and everything else as
before; it never stops (43_rotate_transfer.md R201). -/
def Obligations.RorcRotatesRightThroughCarry : Prop :=
  ∀ (r : RegNum),
    decode (0b001110000111#12 ++ r) = .ok (.rorc r) ∧
    (∀ s : State, ∃ t res, exec (.rorc r) s = .next t ∧ RegWritten s t r res ∧ res.getLsbD 3 = s.cy ∧
      res.getLsbD 2 = (s.reg r).getLsbD 3 ∧ res.getLsbD 1 = (s.reg r).getLsbD 2 ∧
      res.getLsbD 0 = (s.reg r).getLsbD 1 ∧ t.cy = (s.reg r).getLsbD 0 ∧ t.z = s.z ∧ t.bcd = s.bcd ∧
      t.cmp = s.cmp ∧ PortsKept s t ∧ ControlKept s t ∧ Advanced s t)

/-- Five RORC on one register restore it and CY: the loop has five bits (43_rotate_transfer.md R201, corner cases). -/
def Obligations.FiveRorcRestoreRegisterAndCarry : Prop :=
  ∀ (r : RegNum) (s s1 s2 s3 s4 s5 : State), exec (.rorc r) s = .next s1 → exec (.rorc r) s1 = .next s2 →
    exec (.rorc r) s2 = .next s3 → exec (.rorc r) s3 = .next s4 → exec (.rorc r) s4 = .next s5 →
    RegsKept s s5 ∧ FlagsKept s s5 ∧ s5.pc = s.pc + 5#9

/-- LD r, m: its word, the nibble read goes to the register, no flag changes, and where it stops
(43_rotate_transfer.md R204). -/
def Obligations.LoadRegister : Prop :=
  ∀ (r : RegNum) (m : DataAddr),
    decode (0b01000#5 ++ m ++ r) = .ok (.ld r m) ∧
    (∀ (s : State) (v : Nibble), memRead s m = .ok v →
      ∃ t, exec (.ld r m) s = .next t ∧ RegWritten s t r v ∧ FlagsKept s t ∧ PortsKept s t ∧ ControlKept s t ∧
        Advanced s t) ∧
    StopsWithRead (.ld r m) m

/-- ST m, r: its word, the register's nibble is stored at m, no flag changes unless m is 7EH or 7FH, and where it stops
(43_rotate_transfer.md R205). -/
def Obligations.StoreRegister : Prop :=
  ∀ (r : RegNum) (m : DataAddr),
    decode (0b11000#5 ++ m ++ r) = .ok (.st m r) ∧
    (∀ s : State, Implemented m ∨ s.chip.absent ≠ .fault →
      ∃ t, exec (.st m r) s = .next t ∧ Stored s t m (s.reg r) ∧ ControlKept s t ∧ Advanced s t) ∧
    StopsWithWrite (.st m r) m

/-- MOV m, #n4: its word, the immediate is stored at m, no flag changes unless m is 7EH or 7FH, and where it stops
(43_rotate_transfer.md R206). -/
def Obligations.MoveImmediate : Prop :=
  ∀ (m : DataAddr) (n : Nibble),
    decode (0b11101#5 ++ m ++ n) = .ok (.mov m n) ∧
    (∀ s : State, Implemented m ∨ s.chip.absent ≠ .fault →
      ∃ t, exec (.mov m n) s = .next t ∧ Stored s t m n ∧ ControlKept s t ∧ Advanced s t) ∧
    StopsWithWrite (.mov m n) m

/-! ## Branch and subroutine -/

/-- BR: the nine address bits go to the pc and nothing else changes; with reserved address bits set it stops (44_branch_subroutine.md
R211; the stop is the spec's decision D5, log entry 18). -/
def Obligations.BranchLoadsPc : Prop :=
  ∀ (addr : BitVec 11) (s : State),
    (addr.toNat < 512 → exec (.br addr) s = .next { s with pc := BitVec.ofNat 9 addr.toNat }) ∧
    (512 ≤ addr.toNat → exec (.br addr) s = .fault (.illegalInstruction (0b01100#5 ++ addr) s.pc))

/-- CALL with no return address saved: the address after the CALL goes to ASR and the target to the pc; a second CALL
stops; reserved address bits stop it first (44_branch_subroutine.md R212; the spec's decisions D1, D3, D5, log
entries 15, 17, 18). -/
def Obligations.CallSavesReturnAddress : Prop :=
  ∀ (addr : BitVec 11) (s : State),
    (addr.toNat < 512 → s.depth = false →
      exec (.call addr) s =
        .next { s with asr := s.pc + 1#9, depth := true, pc := BitVec.ofNat 9 addr.toNat }) ∧
    (addr.toNat < 512 → s.depth = true → exec (.call addr) s = .fault (.stackOverflow s.pc)) ∧
    (512 ≤ addr.toNat → exec (.call addr) s = .fault (.illegalInstruction (0b11100#5 ++ addr) s.pc))

/-- RET and RETSK with a return address saved: ASR goes to the pc, the level is free, and RETSK leaves a skip pending;
with none saved they stop (44_branch_subroutine.md R213, R214; the stop is the spec's decision D3, log entry 17). -/
def Obligations.ReturnsLoadPcFromAsr : Prop :=
  ∀ s : State,
    (s.depth = true → exec .ret s = .next { s with pc := s.asr, depth := false } ∧
      exec .retsk s = .next { s with pc := s.asr, depth := false, skip := true }) ∧
    (s.depth = false → exec .ret s = .fault (.stackUnderflow s.pc) ∧
      exec .retsk s = .fault (.stackUnderflow s.pc))

/-- A return reached after a CALL with the stack untouched in between resumes after the CALL (RET), or one word further on after
the skipped slot (RETSK) (44_branch_subroutine.md R215; decision D1, log entry 15). -/
def Obligations.CallThenReturnResumesAfterTheCall : Prop :=
  ∀ (addr : BitVec 11) (s t u : State), exec (.call addr) s = .next t → u.asr = t.asr → u.depth = t.depth →
    (∃ v, exec .ret u = .next v ∧ v.pc = s.pc + 1#9 ∧ v.skip = u.skip) ∧
    (∃ v v', exec .retsk u = .next v ∧ cpuStep v = .next v' ∧ v'.pc = s.pc + 2#9 ∧ v'.skip = false)

/-- Over all instructions: only CALL writes ASR, and only CALL, RET, RETSK and STOP 0000B change whether a return
address is saved (44_branch_subroutine.md R215, 45_other.md R232). That HALT and STOP 0001B hold ASR and the saved
level and that STOP 0000B clears the level is the spec's decision D13, and that STOP 0000B keeps ASR in this model is
the model's choice, log entry 25. -/
def Obligations.OnlyCallsAndReturnsTouchTheStack : Prop :=
  ∀ (i : Instr) (s t : State), exec i s = .next t →
    (t.asr = s.asr ∨ ∃ addr, i = .call addr) ∧
    (t.depth = s.depth ∨ (∃ addr, i = .call addr) ∨ i = .ret ∨ i = .retsk ∨ IsStopZero i)

/-! ## NOP, HALT, STOP -/

/-- NOP: its single word; only the pc changes; it never stops (45_other.md R230). -/
def Obligations.NopOnlyAdvancesPc : Prop :=
  decode 0x3CF0#16 = .ok .nop ∧ ∀ s : State, exec .nop s = .next { s with pc := s.pc + 1#9 }

/-- HALT: unconditional for 0000B; for 0001B entered with P0B0 low and a NOP with P0B0 high; everything but pc and
mode is held; other operands stop (45_other.md R231; the stop is the spec's decision D5, log entry 18, and that ASR
and the saved level are held its decision D13, log entry 25). -/
def Obligations.HaltEntersHaltMode : Prop :=
  ∀ s : State,
    exec (.halt 0#4) s = .next { s with pc := s.pc + 1#9, mode := .halt .resetOnly } ∧
    (pinLevel s .p0b0 = false → exec (.halt 1#4) s = .next { s with pc := s.pc + 1#9, mode := .halt .p0b0 }) ∧
    (pinLevel s .p0b0 = true → exec (.halt 1#4) s = .next { s with pc := s.pc + 1#9 }) ∧
    (∀ h : Nibble, 2 ≤ h.toNat → exec (.halt h) s = .fault (.illegalInstruction (0x3BF#12 ++ h) s.pc))

/-- STOP: 0000B clears pc, flags, directions, stack marker and skip and keeps RAM and latches; 0001B is entered with
P0B1 low and is a NOP with P0B1 high; other operands stop (45_other.md R232; the stop is the spec's decision D5, log
entry 18; the cleared stack marker and skip, and ASR and the marker held by STOP 0001B, are its decision D13, and that
STOP 0000B keeps ASR is the model's choice, log entry 25). -/
def Obligations.StopEntersStopMode : Prop :=
  ∀ s : State,
    exec (.stop 0#4) s = .next { s with
      pc := 0#9, bcd := false, cmp := false, cy := false, z := false, outB := false, outC := false,
      outD := false, depth := false, skip := false, mode := .stop .resetOnly } ∧
    (pinLevel s .p0b1 = false → exec (.stop 1#4) s = .next { s with pc := s.pc + 1#9, mode := .stop .p0b1 }) ∧
    (pinLevel s .p0b1 = true → exec (.stop 1#4) s = .next { s with pc := s.pc + 1#9 }) ∧
    (∀ c : Nibble, 2 ≤ c.toNat → exec (.stop c) s = .fault (.illegalInstruction (0x3AF#12 ++ c) s.pc))

/-! ## Standby and reset -/

/-- With RESET high: P0B0 high ends HALT 0001B and only that, P0B1 high ends STOP 0001B and only that, neither ends a
standby entered with operand 0000B, and nothing but the mode changes (60_exceptions.md R295, R297, R298). That STOP is
released at the first evaluation that sees P0B1 high is the spec's decision D17, log entry 29, that its wait takes no
evaluation its decision D20, log entry 31, and that ASR and the saved level are held its decision D13, log entry 25.
-/
def Obligations.StandbyReleasedOnlyByItsPin : Prop :=
  ∀ s : State, resetLevel s = true →
    (s.mode = .halt .p0b0 → pinLevel s .p0b0 = true →
      step s = .next { s with mode := .run, resetHeld := false, env := s.env.advance }) ∧
    (s.mode = .halt .p0b0 → pinLevel s .p0b0 = false →
      step s = .next { s with resetHeld := false, env := s.env.advance }) ∧
    (s.mode = .stop .p0b1 → pinLevel s .p0b1 = true →
      step s = .next { s with mode := .run, resetHeld := false, env := s.env.advance }) ∧
    (s.mode = .stop .p0b1 → pinLevel s .p0b1 = false →
      step s = .next { s with resetHeld := false, env := s.env.advance }) ∧
    (WaitsForReset s → step s = .next { s with resetHeld := false, env := s.env.advance })

/-- Standby is entered by instruction only, and in standby with RESET high no instruction executes: pc, registers, flags,
ports, stack and the drive of every pin stay as they are, and standby is left only by its release pin (60_exceptions.md
R294). -/
def Obligations.StandbyEnteredByInstructionAndHeld : Prop :=
  (∀ s t : State, step s = .next t → s.mode = .run → t.mode ≠ .run →
    resetLevel s = true ∧ s.skip = false ∧ ∃ w i c, fetchWord s = some w ∧ decode w = .ok i ∧
      (i = .halt c ∨ i = .stop c)) ∧
  (∀ s t : State, step s = .next t → s.mode ≠ .run → resetLevel s = true →
    t.pc = s.pc ∧ t.skip = s.skip ∧ t.asr = s.asr ∧ t.depth = s.depth ∧ RegsKept s t ∧ FlagsKept s t ∧
      PortsKept s t ∧ (∀ p, pinOut t p = pinOut s p) ∧ t.chip = s.chip ∧
      (t.mode = s.mode ∨ (t.mode = .run ∧ ((s.mode = .halt .p0b0 ∧ pinLevel s .p0b0 = true) ∨
        (s.mode = .stop .p0b1 ∧ pinLevel s .p0b1 = true)))))

/-- A standby that only RESET ends lasts as long as RESET stays high: however many evaluations follow, nothing but the
environment's position and the reset marker changes, and no fault comes (45_other.md R231, R232; that ASR and the
saved level are held is the spec's decision D13, log entry 25). -/
def Obligations.ResetOnlyStandbyLasts : Prop :=
  ∀ (n : Nat) (s : State), Finished s →
    ∃ t, RunsTo n s t ∧ Finished t ∧ t.pc = s.pc ∧ t.mode = s.mode ∧ t.skip = s.skip ∧ t.asr = s.asr ∧
      t.depth = s.depth ∧ RegsKept s t ∧ FlagsKept s t ∧ PortsKept s t ∧ t.chip = s.chip

/-- RESET going low resets the machine in every mode, before anything else is looked at: pc and flags 0, ports input, mode
RUN; RAM is held where the chip was in standby (70_reset_and_hazards.md R320, R321, 60_exceptions.md R276; the stack marker and
the skip are the spec's decision D13, log entry 25, and the priority its decision D14, log entry 26). -/
def Obligations.ResetClearsAndHoldsRamInStandby : Prop :=
  ∀ s : State, resetLevel s = false → s.resetHeld = false →
    ∃ t, step s = .next t ∧ t.pc = 0#9 ∧ t.bcd = false ∧ t.cmp = false ∧ t.cy = false ∧ t.z = false ∧
      t.outB = false ∧ t.outC = false ∧ t.outD = false ∧ t.depth = false ∧ t.skip = false ∧ t.mode = .run ∧
      t.resetHeld = true ∧ t.chip = s.chip ∧ (s.mode ≠ .run → RegsKept s t)

/-- Lengthening the low period changes nothing: while RESET stays low the state is held, for any number of evaluations
(70_reset_and_hazards.md R320). -/
def Obligations.ResetStateIsHeldWhileLow : Prop :=
  ∀ (n : Nat) (s : State), s.resetHeld = true → s.env.now.reset = .low → (∀ x ∈ s.env.later, x.reset = .low) →
    ∃ e, RunsTo n s { s with env := e }

/-- What a program may assume after reset: pc 000H, the four flags 0, all ports input, no subroutine outstanding, mode
RUN (70_reset_and_hazards.md R327). -/
def Obligations.ResetStateIsWhatProgramsMayAssume : Prop :=
  State.reset.pc = 0x000#9 ∧ State.reset.bcd = false ∧ State.reset.cmp = false ∧ State.reset.cy = false ∧
    State.reset.z = false ∧ State.reset.outB = false ∧ State.reset.outC = false ∧ State.reset.outD = false ∧
    State.reset.depth = false ∧ State.reset.skip = false ∧ State.reset.mode = .run

/-! ## The whole machine -/

/-- The invariant holds right after reset. Its clause that a state held in reset has no return address saved and no
skip pending is the spec's decision D13, log entry 25; the canonical form of the program image is the model's own, log
entry 1. -/
def Obligations.InvariantHoldsAtReset : Prop := Inv State.reset

/-- Every step keeps the invariant: the program image stays in canonical form, no skip is pending in standby, STOP
0000B has left everything clear, and a state held in reset is clear (45_other.md R231, 10_state.md R44,
70_reset_and_hazards.md R320). That a reset and STOP 0000B clear the saved level and the pending skip is the spec's
decision D13, log entry 25; the canonical form is the model's own, log entry 1. -/
def Obligations.EveryStepKeepsInvariant : Prop := ∀ s t : State, Inv s → step s = .next t → Inv t

/-- The program memory never changes: after any number of evaluations every fetch of an address gives the word it gave
before (20_memory.md R80). -/
def Obligations.ProgramMemoryNeverChanges : Prop :=
  ∀ (n : Nat) (s t : State), RunsTo n s t →
    ∀ a, Memory.readWord t.chip.rom a = Memory.readWord s.chip.rom a

/-- The latch of a port in input mode, and ASR with no return address saved, cannot be observed: two states that
differ in nothing else step alike, fault alike, and stay so (10_state.md R42; 93_implementation_defined.md U2, U3).
For ASR this rests on the spec's decision D3, log entry 17: RET and RETSK stop with nothing saved, where a chip might
load ASR. -/
def Obligations.InputLatchesAndFreeStackAreUnobservable : Prop :=
  ∀ s t : State, Alike s t → AlikeOutcomes (step s) (step t)

/-- Over all instructions: a register changes only as the destination, a port's latch and direction change only by a store
to the port (which makes it an output) or, for the direction, by STOP 0000B (which makes it an input); the chip, the environment
and the reset marker never change (10_state.md R39, 20_memory.md R68, 45_other.md R232). -/
def Obligations.OnlyDestinationsChange : Prop :=
  ∀ (i : Instr) (s t : State), exec i s = .next t →
    (∀ k, t.reg k = s.reg k ∨ destination i = some (regAddr k)) ∧
    ((t.latchB = s.latchB ∧ t.outB = s.outB) ∨ (destination i = some 0x71#7 ∧ t.outB = true) ∨
      (IsStopZero i ∧ t.latchB = s.latchB ∧ t.outB = false)) ∧
    ((t.latchC = s.latchC ∧ t.outC = s.outC) ∨ (destination i = some 0x72#7 ∧ t.outC = true) ∨
      (IsStopZero i ∧ t.latchC = s.latchC ∧ t.outC = false)) ∧
    ((t.latchD = s.latchD ∧ t.outD = s.outD) ∨ (destination i = some 0x73#7 ∧ t.outD = true) ∨
      (IsStopZero i ∧ t.latchD = s.latchD ∧ t.outD = false)) ∧
    t.chip = s.chip ∧ t.env = s.env ∧ t.resetHeld = s.resetHeld

/-- Over all instructions: BCD changes only by a store to 7EH; CMP only by a store to 7FH or a bit test; CY only by
arithmetic, RORC or a store to 7FH; Z only by arithmetic or a store to 7FH; and STOP 0000B, the one other
instruction that changes a flag, leaves all four clear (10_state.md R30 to R33, R36, 45_other.md R232). -/
def Obligations.FlagsChangeOnlyWhereNamed : Prop :=
  ∀ (i : Instr) (s t : State), exec i s = .next t →
    (t.bcd = s.bcd ∨ destination i = some 0x7E#7 ∨ (IsStopZero i ∧ t.bcd = false)) ∧
    (t.cmp = s.cmp ∨ destination i = some 0x7F#7 ∨ (∃ m n, (i = .skt m n ∨ i = .skf m n) ∧ t.cmp = false) ∨
      (IsStopZero i ∧ t.cmp = false)) ∧
    (t.cy = s.cy ∨ IsArithmetic i ∨ (∃ r, i = .rorc r) ∨ destination i = some 0x7F#7 ∨
      (IsStopZero i ∧ t.cy = false)) ∧
    (t.z = s.z ∨ IsArithmetic i ∨ destination i = some 0x7F#7 ∨ (IsStopZero i ∧ t.z = false)) ∧
    (IsStopZero i → t.bcd = false ∧ t.cmp = false ∧ t.cy = false ∧ t.z = false)

/-- Every instruction that names a data address stops on one the source does not describe, under the spec's default policy
(20_memory.md R65; the default is the spec's decision D6, log entry 10). -/
def Obligations.AbsentDataAddressStops : Prop :=
  ∀ (i : Instr) (m : DataAddr), dataOperand i = some m → StopsOnAbsent i m

/-- No instruction is refused, and an instruction stops only for one of the four reasons the spec names: an absent data
address under the policy `fault`, reserved operand bits, a second CALL, a return with nothing saved (60_exceptions.md R271,
decisions D3 to D6, D19, log entries 10, 17, 18). -/
def Obligations.InstructionsStopOnlyForNamedReasons : Prop :=
  ∀ (i : Instr) (s : State),
    (∀ q, exec i s ≠ .refused q) ∧
    (∀ f, exec i s = .fault f →
      (∃ m, dataOperand i = some m ∧ ¬ Implemented m ∧ s.chip.absent = .fault ∧
        f = .unimplementedDataAddress m s.pc) ∨
      (i.wellFormed = false ∧ f = .illegalInstruction (encode i) s.pc) ∨
      ((∃ addr, i = .call addr) ∧ s.depth = true ∧ f = .stackOverflow s.pc) ∨
      ((i = .ret ∨ i = .retsk) ∧ s.depth = false ∧ f = .stackUnderflow s.pc))

/-! ## Assembler -/

/-- On one to four flags of one RAM nibble, of 7EH (BCD) or of 7FH (Z, CY, CMP), the macros SETn, CLRn, NOTn expand to one
instruction that sets, clears or complements exactly the flags named and stores nothing else, and SKTn, SKFn to one that
clears CMP, changes no other flag, and skips when all the flags named are 1 or all are 0 (46_assembler.md R250, R258,
R260; the expansions are the spec's decision D23, log entry 33, and that the old CMP is tested its decision D7, log entry
19). -/
def Obligations.MacrosActOnExactlyTheirFlags : Prop :=
  ∀ (m : DataAddr) (flags : List FlagRef) (s : State) (v : Nibble), flags ≠ [] → flags.length ≤ 4 →
    (∀ f ∈ flags, f.addr = m ∧ StoredFlag f) → memRead s m = .ok v →
    (∃ w, ReplacesNibble (.setN flags) s m w ∧
      ∀ k : Fin 4, w.getLsbD k.val = true ↔ v.getLsbD k.val = true ∨ ∃ f ∈ flags, f.bit = k) ∧
    (∃ w, ReplacesNibble (.clrN flags) s m w ∧
      ∀ k : Fin 4, w.getLsbD k.val = true ↔ v.getLsbD k.val = true ∧ ∀ f ∈ flags, f.bit ≠ k) ∧
    (∃ w, ReplacesNibble (.notN flags) s m w ∧
      ∀ k : Fin 4, w.getLsbD k.val = v.getLsbD k.val ↔ ∀ f ∈ flags, f.bit ≠ k) ∧
    SkipsWhen (.sktN flags) s (∀ f ∈ flags, v.getLsbD f.bit.val = true) ∧
    SkipsWhen (.skfN flags) s (∀ f ∈ flags, v.getLsbD f.bit.val = false)

/-- The source's own examples: the mask-option block, and the expansion of CLR1 POB2 (46_assembler.md R247, R251). -/
def Obligations.AssemblerExamplesOfTheSource : Prop :=
  maskOptionBlock [.optPob .pullUp .noPullUp .noPullUp, .optRes .pullUp] =
    some { p0b2 := true, p0b1 := false, p0b0 := false, reset := true } ∧
  reservedValue .pob2 = .flg ⟨0x71#7, 2⟩ ∧
  expandMacro (.clrN [⟨0x71#7, 2⟩]) = some (.andMI 0x71#7 0b1011#4) ∧
  encode (.andMI 0x71#7 0b1011#4) = 0xA71B#16

/-- INITFLG naming the four bits of one nibble stores there 1 at each flag written plain and 0 at each flag written NOT,
without reading the nibble, a port's included (46_assembler.md R250, R258, R260; the expansion is the spec's decision
D23, log entry 33). -/
def Obligations.InitflgStoresTheWholeNibble : Prop :=
  ∀ (m : DataAddr) (flags : List (Bool × FlagRef)) (s : State), flags.length = 4 → (∀ x ∈ flags, x.2.addr = m) →
    (∀ k : Fin 4, ∃ x ∈ flags, x.2.bit = k) → Implemented m →
    ∃ i t w, expandMacro (.initflg flags) = some i ∧ exec i s = .next t ∧ Stored s t m w ∧ ControlKept s t ∧
      Advanced s t ∧ ∀ x ∈ flags, w.getLsbD x.2.bit.val = !x.1

/-- The un-skipped fetch of a program location that is not defined stops the step (the spec's decision D11 and
93_implementation_defined.md U20; the fault's own name is the model's choice, log entry 2). -/
def Obligations.UndefinedLocationStopsTheStep : Prop :=
  ∀ s : State, resetLevel s = true → s.mode = .run → s.skip = false →
    (Memory.read s.chip.rom (2 * s.pc.toNat) = none ∨ Memory.read s.chip.rom (2 * s.pc.toNat + 1) = none) →
    step s = .fault (.undefinedProgramWord s.pc)
end

