-- ==== Sys2Proof/Laws/Assembler.lean ====
section
/-! SUPPORT. What the mask of a macro's flags selects, and when the flags lie in one nibble (46_assembler.md R258). -/

namespace Sys2Proof.Machine

/-- A flag's mask has its own bit and no other. -/
theorem FlagRef.mask_bit (f : FlagRef) (k : Fin 4) : f.mask.getLsbD k.val = true ↔ f.bit = k := by
  have h : ∀ b k : Fin 4, (1#4 <<< b.val).getLsbD k.val = true ↔ b = k := by decide
  exact h f.bit k

/-- The combined mask has exactly the bits of the flags. -/
theorem flagMask_bit (flags : List FlagRef) (k : Fin 4) :
    (flagMask flags).getLsbD k.val = true ↔ ∃ f ∈ flags, f.bit = k := by
  induction flags with
  | nil => simp [flagMask]
  | cons f rest ih =>
    simp only [flagMask, BitVec.getLsbD_or, Bool.or_eq_true, ih, FlagRef.mask_bit, List.mem_cons, exists_eq_or_imp]

/-- One to four flags of one nibble. -/
theorem oneNibble_of_same {flags : List FlagRef} {m : DataAddr} (hne : flags ≠ []) (hlen : flags.length ≤ 4)
    (hm : ∀ f ∈ flags, f.addr = m) : oneNibble flags = some (m, flagMask flags) := by
  cases flags with
  | nil => exact absurd rfl hne
  | cons f rest =>
    have hf : f.addr = m := hm f (by simp)
    have hall : rest.all (fun g => g.addr == f.addr) = true := by
      simp only [List.all_eq_true, beq_iff_eq]
      intro g hg
      rw [hf, hm g (by simp [hg])]
    rw [List.length_cons] at hlen
    simp only [oneNibble]
    rw [if_pos ⟨by omega, hall⟩, hf]

end Sys2Proof.Machine
end

