-- ==== Sys2Proof/Laws/Encoding.lean ====
section
/-! SUPPORT. The fields of a packed word, a word packed from its fields, and the reserved-bit checks as masks
(30_encoding.md R101 to R106, R111, R112). -/

namespace Sys2Proof

@[simp] theorem opField_packWord (op : BitVec 5) (mid : BitVec 7) (low : Nibble) :
    opField (packWord op mid low) = op := by
  ext i hi
  simp only [opField, packWord, BitVec.getElem_extractLsb']
  grind

@[simp] theorem midField_packWord (op : BitVec 5) (mid : BitVec 7) (low : Nibble) :
    midField (packWord op mid low) = mid := by
  ext i hi
  simp only [midField, packWord, BitVec.getElem_extractLsb']
  grind

@[simp] theorem lowField_packWord (op : BitVec 5) (mid : BitVec 7) (low : Nibble) :
    lowField (packWord op mid low) = low := by
  ext i hi
  simp only [lowField, packWord, BitVec.getElem_extractLsb']
  grind

@[simp] theorem opField_packAddr (op : BitVec 5) (a : BitVec 11) : opField (packAddr op a) = op := by
  ext i hi
  simp only [opField, packAddr, BitVec.getElem_extractLsb']
  grind

@[simp] theorem addrField_packAddr (op : BitVec 5) (a : BitVec 11) : addrField (packAddr op a) = a := by
  ext i hi
  simp only [addrField, packAddr, BitVec.getElem_extractLsb']
  grind

theorem packWord_fields (w : Word) : packWord (opField w) (midField w) (lowField w) = w := by
  ext i hi
  simp only [opField, midField, lowField, packWord]
  grind

theorem packAddr_fields (w : Word) : packAddr (opField w) (addrField w) = w := by
  ext i hi
  simp only [opField, addrField, packAddr]
  grind

theorem packWord_and (op op' : BitVec 5) (mid mid' : BitVec 7) (low low' : Nibble) :
    packWord op mid low &&& packWord op' mid' low' = packWord (op &&& op') (mid &&& mid') (low &&& low') := by
  ext i hi
  simp only [packWord]
  grind

theorem packAddr_and (op op' : BitVec 5) (a a' : BitVec 11) :
    packAddr op a &&& packAddr op' a' = packAddr (op &&& op') (a &&& a') := by
  ext i hi
  simp only [packAddr]
  grind

/-- A packed word under a mask that keeps op alone. -/
theorem packWord_and_opMask (op : BitVec 5) (mid : BitVec 7) (low : Nibble) :
    packWord op mid low &&& 0xF800#16 = packWord op 0#7 0#4 := by
  rw [show (0xF800#16 : Word) = packWord 31#5 0#7 0#4 by decide, packWord_and, BitVec.and_zero, BitVec.and_zero,
    show op &&& 31#5 = op from BitVec.and_allOnes]

/-- A packed word under a mask that keeps op and the sub-code. -/
theorem packWord_and_subMask (op : BitVec 5) (mid : BitVec 7) (low : Nibble) :
    packWord op mid low &&& 0xFFF0#16 = packWord op mid 0#4 := by
  rw [show (0xFFF0#16 : Word) = packWord 31#5 127#7 0#4 by decide, packWord_and, BitVec.and_zero,
    show op &&& 31#5 = op from BitVec.and_allOnes, show mid &&& 127#7 = mid from BitVec.and_allOnes]

theorem conditionBitsZero_iff (c : Nibble) : conditionBitsZero c = true ↔ c = 0#4 ∨ c = 1#4 := by
  revert c
  decide

theorem addrBitsZero_iff (a : BitVec 11) : addrBitsZero a = true ↔ a &&& 0x600#11 = 0#11 := by
  revert a
  decide

end Sys2Proof
end

