-- ==== Sys2Proof/Laws/State.lean ====
section
/-! SUPPORT. One lemma per field per update of State, true by rfl, so that no proof unfolds a record update; and what a
register reads after each update. -/

namespace Sys2Proof.Machine

/-! ### nextPc -/

@[simp] theorem State.nextPc_pc (s : State) : s.nextPc.pc = s.pc + 1#9 := rfl
@[simp] theorem State.nextPc_asr (s : State) : s.nextPc.asr = s.asr := rfl
@[simp] theorem State.nextPc_depth (s : State) : s.nextPc.depth = s.depth := rfl
@[simp] theorem State.nextPc_ram (s : State) : s.nextPc.ram = s.ram := rfl
@[simp] theorem State.nextPc_bcd (s : State) : s.nextPc.bcd = s.bcd := rfl
@[simp] theorem State.nextPc_cmp (s : State) : s.nextPc.cmp = s.cmp := rfl
@[simp] theorem State.nextPc_cy (s : State) : s.nextPc.cy = s.cy := rfl
@[simp] theorem State.nextPc_z (s : State) : s.nextPc.z = s.z := rfl
@[simp] theorem State.nextPc_latchB (s : State) : s.nextPc.latchB = s.latchB := rfl
@[simp] theorem State.nextPc_latchC (s : State) : s.nextPc.latchC = s.latchC := rfl
@[simp] theorem State.nextPc_latchD (s : State) : s.nextPc.latchD = s.latchD := rfl
@[simp] theorem State.nextPc_outB (s : State) : s.nextPc.outB = s.outB := rfl
@[simp] theorem State.nextPc_outC (s : State) : s.nextPc.outC = s.outC := rfl
@[simp] theorem State.nextPc_outD (s : State) : s.nextPc.outD = s.outD := rfl
@[simp] theorem State.nextPc_skip (s : State) : s.nextPc.skip = s.skip := rfl
@[simp] theorem State.nextPc_mode (s : State) : s.nextPc.mode = s.mode := rfl
@[simp] theorem State.nextPc_resetHeld (s : State) : s.nextPc.resetHeld = s.resetHeld := rfl
@[simp] theorem State.nextPc_chip (s : State) : s.nextPc.chip = s.chip := rfl
@[simp] theorem State.nextPc_env (s : State) : s.nextPc.env = s.env := rfl

/-! ### jump -/

@[simp] theorem State.jump_pc (s : State) (a : ProgAddr) : (s.jump a).pc = a := rfl
@[simp] theorem State.jump_asr (s : State) (a : ProgAddr) : (s.jump a).asr = s.asr := rfl
@[simp] theorem State.jump_depth (s : State) (a : ProgAddr) : (s.jump a).depth = s.depth := rfl
@[simp] theorem State.jump_ram (s : State) (a : ProgAddr) : (s.jump a).ram = s.ram := rfl
@[simp] theorem State.jump_bcd (s : State) (a : ProgAddr) : (s.jump a).bcd = s.bcd := rfl
@[simp] theorem State.jump_cmp (s : State) (a : ProgAddr) : (s.jump a).cmp = s.cmp := rfl
@[simp] theorem State.jump_cy (s : State) (a : ProgAddr) : (s.jump a).cy = s.cy := rfl
@[simp] theorem State.jump_z (s : State) (a : ProgAddr) : (s.jump a).z = s.z := rfl
@[simp] theorem State.jump_latchB (s : State) (a : ProgAddr) : (s.jump a).latchB = s.latchB := rfl
@[simp] theorem State.jump_latchC (s : State) (a : ProgAddr) : (s.jump a).latchC = s.latchC := rfl
@[simp] theorem State.jump_latchD (s : State) (a : ProgAddr) : (s.jump a).latchD = s.latchD := rfl
@[simp] theorem State.jump_outB (s : State) (a : ProgAddr) : (s.jump a).outB = s.outB := rfl
@[simp] theorem State.jump_outC (s : State) (a : ProgAddr) : (s.jump a).outC = s.outC := rfl
@[simp] theorem State.jump_outD (s : State) (a : ProgAddr) : (s.jump a).outD = s.outD := rfl
@[simp] theorem State.jump_skip (s : State) (a : ProgAddr) : (s.jump a).skip = s.skip := rfl
@[simp] theorem State.jump_mode (s : State) (a : ProgAddr) : (s.jump a).mode = s.mode := rfl
@[simp] theorem State.jump_resetHeld (s : State) (a : ProgAddr) : (s.jump a).resetHeld = s.resetHeld := rfl
@[simp] theorem State.jump_chip (s : State) (a : ProgAddr) : (s.jump a).chip = s.chip := rfl
@[simp] theorem State.jump_env (s : State) (a : ProgAddr) : (s.jump a).env = s.env := rfl

/-! ### setSkip -/

@[simp] theorem State.setSkip_pc (s : State) (b : Bool) : (s.setSkip b).pc = s.pc := rfl
@[simp] theorem State.setSkip_asr (s : State) (b : Bool) : (s.setSkip b).asr = s.asr := rfl
@[simp] theorem State.setSkip_depth (s : State) (b : Bool) : (s.setSkip b).depth = s.depth := rfl
@[simp] theorem State.setSkip_ram (s : State) (b : Bool) : (s.setSkip b).ram = s.ram := rfl
@[simp] theorem State.setSkip_bcd (s : State) (b : Bool) : (s.setSkip b).bcd = s.bcd := rfl
@[simp] theorem State.setSkip_cmp (s : State) (b : Bool) : (s.setSkip b).cmp = s.cmp := rfl
@[simp] theorem State.setSkip_cy (s : State) (b : Bool) : (s.setSkip b).cy = s.cy := rfl
@[simp] theorem State.setSkip_z (s : State) (b : Bool) : (s.setSkip b).z = s.z := rfl
@[simp] theorem State.setSkip_latchB (s : State) (b : Bool) : (s.setSkip b).latchB = s.latchB := rfl
@[simp] theorem State.setSkip_latchC (s : State) (b : Bool) : (s.setSkip b).latchC = s.latchC := rfl
@[simp] theorem State.setSkip_latchD (s : State) (b : Bool) : (s.setSkip b).latchD = s.latchD := rfl
@[simp] theorem State.setSkip_outB (s : State) (b : Bool) : (s.setSkip b).outB = s.outB := rfl
@[simp] theorem State.setSkip_outC (s : State) (b : Bool) : (s.setSkip b).outC = s.outC := rfl
@[simp] theorem State.setSkip_outD (s : State) (b : Bool) : (s.setSkip b).outD = s.outD := rfl
@[simp] theorem State.setSkip_skip (s : State) (b : Bool) : (s.setSkip b).skip = b := rfl
@[simp] theorem State.setSkip_mode (s : State) (b : Bool) : (s.setSkip b).mode = s.mode := rfl
@[simp] theorem State.setSkip_resetHeld (s : State) (b : Bool) : (s.setSkip b).resetHeld = s.resetHeld := rfl
@[simp] theorem State.setSkip_chip (s : State) (b : Bool) : (s.setSkip b).chip = s.chip := rfl
@[simp] theorem State.setSkip_env (s : State) (b : Bool) : (s.setSkip b).env = s.env := rfl

/-! ### setReg -/

@[simp] theorem State.setReg_pc (s : State) (r : RegNum) (v : Nibble) : (s.setReg r v).pc = s.pc := rfl
@[simp] theorem State.setReg_asr (s : State) (r : RegNum) (v : Nibble) : (s.setReg r v).asr = s.asr := rfl
@[simp] theorem State.setReg_depth (s : State) (r : RegNum) (v : Nibble) : (s.setReg r v).depth = s.depth := rfl
@[simp] theorem State.setReg_ram (s : State) (r : RegNum) (v : Nibble) : (s.setReg r v).ram = s.ram.set r.toNat v r.isLt := rfl
@[simp] theorem State.setReg_bcd (s : State) (r : RegNum) (v : Nibble) : (s.setReg r v).bcd = s.bcd := rfl
@[simp] theorem State.setReg_cmp (s : State) (r : RegNum) (v : Nibble) : (s.setReg r v).cmp = s.cmp := rfl
@[simp] theorem State.setReg_cy (s : State) (r : RegNum) (v : Nibble) : (s.setReg r v).cy = s.cy := rfl
@[simp] theorem State.setReg_z (s : State) (r : RegNum) (v : Nibble) : (s.setReg r v).z = s.z := rfl
@[simp] theorem State.setReg_latchB (s : State) (r : RegNum) (v : Nibble) : (s.setReg r v).latchB = s.latchB := rfl
@[simp] theorem State.setReg_latchC (s : State) (r : RegNum) (v : Nibble) : (s.setReg r v).latchC = s.latchC := rfl
@[simp] theorem State.setReg_latchD (s : State) (r : RegNum) (v : Nibble) : (s.setReg r v).latchD = s.latchD := rfl
@[simp] theorem State.setReg_outB (s : State) (r : RegNum) (v : Nibble) : (s.setReg r v).outB = s.outB := rfl
@[simp] theorem State.setReg_outC (s : State) (r : RegNum) (v : Nibble) : (s.setReg r v).outC = s.outC := rfl
@[simp] theorem State.setReg_outD (s : State) (r : RegNum) (v : Nibble) : (s.setReg r v).outD = s.outD := rfl
@[simp] theorem State.setReg_skip (s : State) (r : RegNum) (v : Nibble) : (s.setReg r v).skip = s.skip := rfl
@[simp] theorem State.setReg_mode (s : State) (r : RegNum) (v : Nibble) : (s.setReg r v).mode = s.mode := rfl
@[simp] theorem State.setReg_resetHeld (s : State) (r : RegNum) (v : Nibble) : (s.setReg r v).resetHeld = s.resetHeld := rfl
@[simp] theorem State.setReg_chip (s : State) (r : RegNum) (v : Nibble) : (s.setReg r v).chip = s.chip := rfl
@[simp] theorem State.setReg_env (s : State) (r : RegNum) (v : Nibble) : (s.setReg r v).env = s.env := rfl

/-! ### setCarryZero -/

@[simp] theorem State.setCarryZero_pc (s : State) (c x : Bool) : (s.setCarryZero c x).pc = s.pc := rfl
@[simp] theorem State.setCarryZero_asr (s : State) (c x : Bool) : (s.setCarryZero c x).asr = s.asr := rfl
@[simp] theorem State.setCarryZero_depth (s : State) (c x : Bool) : (s.setCarryZero c x).depth = s.depth := rfl
@[simp] theorem State.setCarryZero_ram (s : State) (c x : Bool) : (s.setCarryZero c x).ram = s.ram := rfl
@[simp] theorem State.setCarryZero_bcd (s : State) (c x : Bool) : (s.setCarryZero c x).bcd = s.bcd := rfl
@[simp] theorem State.setCarryZero_cmp (s : State) (c x : Bool) : (s.setCarryZero c x).cmp = s.cmp := rfl
@[simp] theorem State.setCarryZero_cy (s : State) (c x : Bool) : (s.setCarryZero c x).cy = c := rfl
@[simp] theorem State.setCarryZero_z (s : State) (c x : Bool) : (s.setCarryZero c x).z = x := rfl
@[simp] theorem State.setCarryZero_latchB (s : State) (c x : Bool) : (s.setCarryZero c x).latchB = s.latchB := rfl
@[simp] theorem State.setCarryZero_latchC (s : State) (c x : Bool) : (s.setCarryZero c x).latchC = s.latchC := rfl
@[simp] theorem State.setCarryZero_latchD (s : State) (c x : Bool) : (s.setCarryZero c x).latchD = s.latchD := rfl
@[simp] theorem State.setCarryZero_outB (s : State) (c x : Bool) : (s.setCarryZero c x).outB = s.outB := rfl
@[simp] theorem State.setCarryZero_outC (s : State) (c x : Bool) : (s.setCarryZero c x).outC = s.outC := rfl
@[simp] theorem State.setCarryZero_outD (s : State) (c x : Bool) : (s.setCarryZero c x).outD = s.outD := rfl
@[simp] theorem State.setCarryZero_skip (s : State) (c x : Bool) : (s.setCarryZero c x).skip = s.skip := rfl
@[simp] theorem State.setCarryZero_mode (s : State) (c x : Bool) : (s.setCarryZero c x).mode = s.mode := rfl
@[simp] theorem State.setCarryZero_resetHeld (s : State) (c x : Bool) : (s.setCarryZero c x).resetHeld = s.resetHeld := rfl
@[simp] theorem State.setCarryZero_chip (s : State) (c x : Bool) : (s.setCarryZero c x).chip = s.chip := rfl
@[simp] theorem State.setCarryZero_env (s : State) (c x : Bool) : (s.setCarryZero c x).env = s.env := rfl

/-! ### setCarry -/

@[simp] theorem State.setCarry_pc (s : State) (c : Bool) : (s.setCarry c).pc = s.pc := rfl
@[simp] theorem State.setCarry_asr (s : State) (c : Bool) : (s.setCarry c).asr = s.asr := rfl
@[simp] theorem State.setCarry_depth (s : State) (c : Bool) : (s.setCarry c).depth = s.depth := rfl
@[simp] theorem State.setCarry_ram (s : State) (c : Bool) : (s.setCarry c).ram = s.ram := rfl
@[simp] theorem State.setCarry_bcd (s : State) (c : Bool) : (s.setCarry c).bcd = s.bcd := rfl
@[simp] theorem State.setCarry_cmp (s : State) (c : Bool) : (s.setCarry c).cmp = s.cmp := rfl
@[simp] theorem State.setCarry_cy (s : State) (c : Bool) : (s.setCarry c).cy = c := rfl
@[simp] theorem State.setCarry_z (s : State) (c : Bool) : (s.setCarry c).z = s.z := rfl
@[simp] theorem State.setCarry_latchB (s : State) (c : Bool) : (s.setCarry c).latchB = s.latchB := rfl
@[simp] theorem State.setCarry_latchC (s : State) (c : Bool) : (s.setCarry c).latchC = s.latchC := rfl
@[simp] theorem State.setCarry_latchD (s : State) (c : Bool) : (s.setCarry c).latchD = s.latchD := rfl
@[simp] theorem State.setCarry_outB (s : State) (c : Bool) : (s.setCarry c).outB = s.outB := rfl
@[simp] theorem State.setCarry_outC (s : State) (c : Bool) : (s.setCarry c).outC = s.outC := rfl
@[simp] theorem State.setCarry_outD (s : State) (c : Bool) : (s.setCarry c).outD = s.outD := rfl
@[simp] theorem State.setCarry_skip (s : State) (c : Bool) : (s.setCarry c).skip = s.skip := rfl
@[simp] theorem State.setCarry_mode (s : State) (c : Bool) : (s.setCarry c).mode = s.mode := rfl
@[simp] theorem State.setCarry_resetHeld (s : State) (c : Bool) : (s.setCarry c).resetHeld = s.resetHeld := rfl
@[simp] theorem State.setCarry_chip (s : State) (c : Bool) : (s.setCarry c).chip = s.chip := rfl
@[simp] theorem State.setCarry_env (s : State) (c : Bool) : (s.setCarry c).env = s.env := rfl

/-! ### clearCmp -/

@[simp] theorem State.clearCmp_pc (s : State) : s.clearCmp.pc = s.pc := rfl
@[simp] theorem State.clearCmp_asr (s : State) : s.clearCmp.asr = s.asr := rfl
@[simp] theorem State.clearCmp_depth (s : State) : s.clearCmp.depth = s.depth := rfl
@[simp] theorem State.clearCmp_ram (s : State) : s.clearCmp.ram = s.ram := rfl
@[simp] theorem State.clearCmp_bcd (s : State) : s.clearCmp.bcd = s.bcd := rfl
@[simp] theorem State.clearCmp_cmp (s : State) : s.clearCmp.cmp = false := rfl
@[simp] theorem State.clearCmp_cy (s : State) : s.clearCmp.cy = s.cy := rfl
@[simp] theorem State.clearCmp_z (s : State) : s.clearCmp.z = s.z := rfl
@[simp] theorem State.clearCmp_latchB (s : State) : s.clearCmp.latchB = s.latchB := rfl
@[simp] theorem State.clearCmp_latchC (s : State) : s.clearCmp.latchC = s.latchC := rfl
@[simp] theorem State.clearCmp_latchD (s : State) : s.clearCmp.latchD = s.latchD := rfl
@[simp] theorem State.clearCmp_outB (s : State) : s.clearCmp.outB = s.outB := rfl
@[simp] theorem State.clearCmp_outC (s : State) : s.clearCmp.outC = s.outC := rfl
@[simp] theorem State.clearCmp_outD (s : State) : s.clearCmp.outD = s.outD := rfl
@[simp] theorem State.clearCmp_skip (s : State) : s.clearCmp.skip = s.skip := rfl
@[simp] theorem State.clearCmp_mode (s : State) : s.clearCmp.mode = s.mode := rfl
@[simp] theorem State.clearCmp_resetHeld (s : State) : s.clearCmp.resetHeld = s.resetHeld := rfl
@[simp] theorem State.clearCmp_chip (s : State) : s.clearCmp.chip = s.chip := rfl
@[simp] theorem State.clearCmp_env (s : State) : s.clearCmp.env = s.env := rfl

/-! ### setBcdNibble -/

@[simp] theorem State.setBcdNibble_pc (s : State) (v : Nibble) : (s.setBcdNibble v).pc = s.pc := rfl
@[simp] theorem State.setBcdNibble_asr (s : State) (v : Nibble) : (s.setBcdNibble v).asr = s.asr := rfl
@[simp] theorem State.setBcdNibble_depth (s : State) (v : Nibble) : (s.setBcdNibble v).depth = s.depth := rfl
@[simp] theorem State.setBcdNibble_ram (s : State) (v : Nibble) : (s.setBcdNibble v).ram = s.ram := rfl
@[simp] theorem State.setBcdNibble_bcd (s : State) (v : Nibble) : (s.setBcdNibble v).bcd = v.getLsbD 0 := rfl
@[simp] theorem State.setBcdNibble_cmp (s : State) (v : Nibble) : (s.setBcdNibble v).cmp = s.cmp := rfl
@[simp] theorem State.setBcdNibble_cy (s : State) (v : Nibble) : (s.setBcdNibble v).cy = s.cy := rfl
@[simp] theorem State.setBcdNibble_z (s : State) (v : Nibble) : (s.setBcdNibble v).z = s.z := rfl
@[simp] theorem State.setBcdNibble_latchB (s : State) (v : Nibble) : (s.setBcdNibble v).latchB = s.latchB := rfl
@[simp] theorem State.setBcdNibble_latchC (s : State) (v : Nibble) : (s.setBcdNibble v).latchC = s.latchC := rfl
@[simp] theorem State.setBcdNibble_latchD (s : State) (v : Nibble) : (s.setBcdNibble v).latchD = s.latchD := rfl
@[simp] theorem State.setBcdNibble_outB (s : State) (v : Nibble) : (s.setBcdNibble v).outB = s.outB := rfl
@[simp] theorem State.setBcdNibble_outC (s : State) (v : Nibble) : (s.setBcdNibble v).outC = s.outC := rfl
@[simp] theorem State.setBcdNibble_outD (s : State) (v : Nibble) : (s.setBcdNibble v).outD = s.outD := rfl
@[simp] theorem State.setBcdNibble_skip (s : State) (v : Nibble) : (s.setBcdNibble v).skip = s.skip := rfl
@[simp] theorem State.setBcdNibble_mode (s : State) (v : Nibble) : (s.setBcdNibble v).mode = s.mode := rfl
@[simp] theorem State.setBcdNibble_resetHeld (s : State) (v : Nibble) : (s.setBcdNibble v).resetHeld = s.resetHeld := rfl
@[simp] theorem State.setBcdNibble_chip (s : State) (v : Nibble) : (s.setBcdNibble v).chip = s.chip := rfl
@[simp] theorem State.setBcdNibble_env (s : State) (v : Nibble) : (s.setBcdNibble v).env = s.env := rfl

/-! ### setPsw -/

@[simp] theorem State.setPsw_pc (s : State) (v : Nibble) : (s.setPsw v).pc = s.pc := rfl
@[simp] theorem State.setPsw_asr (s : State) (v : Nibble) : (s.setPsw v).asr = s.asr := rfl
@[simp] theorem State.setPsw_depth (s : State) (v : Nibble) : (s.setPsw v).depth = s.depth := rfl
@[simp] theorem State.setPsw_ram (s : State) (v : Nibble) : (s.setPsw v).ram = s.ram := rfl
@[simp] theorem State.setPsw_bcd (s : State) (v : Nibble) : (s.setPsw v).bcd = s.bcd := rfl
@[simp] theorem State.setPsw_cmp (s : State) (v : Nibble) : (s.setPsw v).cmp = v.getLsbD 3 := rfl
@[simp] theorem State.setPsw_cy (s : State) (v : Nibble) : (s.setPsw v).cy = v.getLsbD 2 := rfl
@[simp] theorem State.setPsw_z (s : State) (v : Nibble) : (s.setPsw v).z = v.getLsbD 1 := rfl
@[simp] theorem State.setPsw_latchB (s : State) (v : Nibble) : (s.setPsw v).latchB = s.latchB := rfl
@[simp] theorem State.setPsw_latchC (s : State) (v : Nibble) : (s.setPsw v).latchC = s.latchC := rfl
@[simp] theorem State.setPsw_latchD (s : State) (v : Nibble) : (s.setPsw v).latchD = s.latchD := rfl
@[simp] theorem State.setPsw_outB (s : State) (v : Nibble) : (s.setPsw v).outB = s.outB := rfl
@[simp] theorem State.setPsw_outC (s : State) (v : Nibble) : (s.setPsw v).outC = s.outC := rfl
@[simp] theorem State.setPsw_outD (s : State) (v : Nibble) : (s.setPsw v).outD = s.outD := rfl
@[simp] theorem State.setPsw_skip (s : State) (v : Nibble) : (s.setPsw v).skip = s.skip := rfl
@[simp] theorem State.setPsw_mode (s : State) (v : Nibble) : (s.setPsw v).mode = s.mode := rfl
@[simp] theorem State.setPsw_resetHeld (s : State) (v : Nibble) : (s.setPsw v).resetHeld = s.resetHeld := rfl
@[simp] theorem State.setPsw_chip (s : State) (v : Nibble) : (s.setPsw v).chip = s.chip := rfl
@[simp] theorem State.setPsw_env (s : State) (v : Nibble) : (s.setPsw v).env = s.env := rfl

/-! ### pushReturn -/

@[simp] theorem State.pushReturn_pc (s : State) (a : ProgAddr) : (s.pushReturn a).pc = s.pc := rfl
@[simp] theorem State.pushReturn_asr (s : State) (a : ProgAddr) : (s.pushReturn a).asr = a := rfl
@[simp] theorem State.pushReturn_depth (s : State) (a : ProgAddr) : (s.pushReturn a).depth = true := rfl
@[simp] theorem State.pushReturn_ram (s : State) (a : ProgAddr) : (s.pushReturn a).ram = s.ram := rfl
@[simp] theorem State.pushReturn_bcd (s : State) (a : ProgAddr) : (s.pushReturn a).bcd = s.bcd := rfl
@[simp] theorem State.pushReturn_cmp (s : State) (a : ProgAddr) : (s.pushReturn a).cmp = s.cmp := rfl
@[simp] theorem State.pushReturn_cy (s : State) (a : ProgAddr) : (s.pushReturn a).cy = s.cy := rfl
@[simp] theorem State.pushReturn_z (s : State) (a : ProgAddr) : (s.pushReturn a).z = s.z := rfl
@[simp] theorem State.pushReturn_latchB (s : State) (a : ProgAddr) : (s.pushReturn a).latchB = s.latchB := rfl
@[simp] theorem State.pushReturn_latchC (s : State) (a : ProgAddr) : (s.pushReturn a).latchC = s.latchC := rfl
@[simp] theorem State.pushReturn_latchD (s : State) (a : ProgAddr) : (s.pushReturn a).latchD = s.latchD := rfl
@[simp] theorem State.pushReturn_outB (s : State) (a : ProgAddr) : (s.pushReturn a).outB = s.outB := rfl
@[simp] theorem State.pushReturn_outC (s : State) (a : ProgAddr) : (s.pushReturn a).outC = s.outC := rfl
@[simp] theorem State.pushReturn_outD (s : State) (a : ProgAddr) : (s.pushReturn a).outD = s.outD := rfl
@[simp] theorem State.pushReturn_skip (s : State) (a : ProgAddr) : (s.pushReturn a).skip = s.skip := rfl
@[simp] theorem State.pushReturn_mode (s : State) (a : ProgAddr) : (s.pushReturn a).mode = s.mode := rfl
@[simp] theorem State.pushReturn_resetHeld (s : State) (a : ProgAddr) : (s.pushReturn a).resetHeld = s.resetHeld := rfl
@[simp] theorem State.pushReturn_chip (s : State) (a : ProgAddr) : (s.pushReturn a).chip = s.chip := rfl
@[simp] theorem State.pushReturn_env (s : State) (a : ProgAddr) : (s.pushReturn a).env = s.env := rfl

/-! ### popReturn -/

@[simp] theorem State.popReturn_pc (s : State) : s.popReturn.pc = s.asr := rfl
@[simp] theorem State.popReturn_asr (s : State) : s.popReturn.asr = s.asr := rfl
@[simp] theorem State.popReturn_depth (s : State) : s.popReturn.depth = false := rfl
@[simp] theorem State.popReturn_ram (s : State) : s.popReturn.ram = s.ram := rfl
@[simp] theorem State.popReturn_bcd (s : State) : s.popReturn.bcd = s.bcd := rfl
@[simp] theorem State.popReturn_cmp (s : State) : s.popReturn.cmp = s.cmp := rfl
@[simp] theorem State.popReturn_cy (s : State) : s.popReturn.cy = s.cy := rfl
@[simp] theorem State.popReturn_z (s : State) : s.popReturn.z = s.z := rfl
@[simp] theorem State.popReturn_latchB (s : State) : s.popReturn.latchB = s.latchB := rfl
@[simp] theorem State.popReturn_latchC (s : State) : s.popReturn.latchC = s.latchC := rfl
@[simp] theorem State.popReturn_latchD (s : State) : s.popReturn.latchD = s.latchD := rfl
@[simp] theorem State.popReturn_outB (s : State) : s.popReturn.outB = s.outB := rfl
@[simp] theorem State.popReturn_outC (s : State) : s.popReturn.outC = s.outC := rfl
@[simp] theorem State.popReturn_outD (s : State) : s.popReturn.outD = s.outD := rfl
@[simp] theorem State.popReturn_skip (s : State) : s.popReturn.skip = s.skip := rfl
@[simp] theorem State.popReturn_mode (s : State) : s.popReturn.mode = s.mode := rfl
@[simp] theorem State.popReturn_resetHeld (s : State) : s.popReturn.resetHeld = s.resetHeld := rfl
@[simp] theorem State.popReturn_chip (s : State) : s.popReturn.chip = s.chip := rfl
@[simp] theorem State.popReturn_env (s : State) : s.popReturn.env = s.env := rfl

/-! ### setMode -/

@[simp] theorem State.setMode_pc (s : State) (m : Mode) : (s.setMode m).pc = s.pc := rfl
@[simp] theorem State.setMode_asr (s : State) (m : Mode) : (s.setMode m).asr = s.asr := rfl
@[simp] theorem State.setMode_depth (s : State) (m : Mode) : (s.setMode m).depth = s.depth := rfl
@[simp] theorem State.setMode_ram (s : State) (m : Mode) : (s.setMode m).ram = s.ram := rfl
@[simp] theorem State.setMode_bcd (s : State) (m : Mode) : (s.setMode m).bcd = s.bcd := rfl
@[simp] theorem State.setMode_cmp (s : State) (m : Mode) : (s.setMode m).cmp = s.cmp := rfl
@[simp] theorem State.setMode_cy (s : State) (m : Mode) : (s.setMode m).cy = s.cy := rfl
@[simp] theorem State.setMode_z (s : State) (m : Mode) : (s.setMode m).z = s.z := rfl
@[simp] theorem State.setMode_latchB (s : State) (m : Mode) : (s.setMode m).latchB = s.latchB := rfl
@[simp] theorem State.setMode_latchC (s : State) (m : Mode) : (s.setMode m).latchC = s.latchC := rfl
@[simp] theorem State.setMode_latchD (s : State) (m : Mode) : (s.setMode m).latchD = s.latchD := rfl
@[simp] theorem State.setMode_outB (s : State) (m : Mode) : (s.setMode m).outB = s.outB := rfl
@[simp] theorem State.setMode_outC (s : State) (m : Mode) : (s.setMode m).outC = s.outC := rfl
@[simp] theorem State.setMode_outD (s : State) (m : Mode) : (s.setMode m).outD = s.outD := rfl
@[simp] theorem State.setMode_skip (s : State) (m : Mode) : (s.setMode m).skip = s.skip := rfl
@[simp] theorem State.setMode_mode (s : State) (m : Mode) : (s.setMode m).mode = m := rfl
@[simp] theorem State.setMode_resetHeld (s : State) (m : Mode) : (s.setMode m).resetHeld = s.resetHeld := rfl
@[simp] theorem State.setMode_chip (s : State) (m : Mode) : (s.setMode m).chip = s.chip := rfl
@[simp] theorem State.setMode_env (s : State) (m : Mode) : (s.setMode m).env = s.env := rfl

/-! ### setResetHeld -/

@[simp] theorem State.setResetHeld_pc (s : State) (b : Bool) : (s.setResetHeld b).pc = s.pc := rfl
@[simp] theorem State.setResetHeld_asr (s : State) (b : Bool) : (s.setResetHeld b).asr = s.asr := rfl
@[simp] theorem State.setResetHeld_depth (s : State) (b : Bool) : (s.setResetHeld b).depth = s.depth := rfl
@[simp] theorem State.setResetHeld_ram (s : State) (b : Bool) : (s.setResetHeld b).ram = s.ram := rfl
@[simp] theorem State.setResetHeld_bcd (s : State) (b : Bool) : (s.setResetHeld b).bcd = s.bcd := rfl
@[simp] theorem State.setResetHeld_cmp (s : State) (b : Bool) : (s.setResetHeld b).cmp = s.cmp := rfl
@[simp] theorem State.setResetHeld_cy (s : State) (b : Bool) : (s.setResetHeld b).cy = s.cy := rfl
@[simp] theorem State.setResetHeld_z (s : State) (b : Bool) : (s.setResetHeld b).z = s.z := rfl
@[simp] theorem State.setResetHeld_latchB (s : State) (b : Bool) : (s.setResetHeld b).latchB = s.latchB := rfl
@[simp] theorem State.setResetHeld_latchC (s : State) (b : Bool) : (s.setResetHeld b).latchC = s.latchC := rfl
@[simp] theorem State.setResetHeld_latchD (s : State) (b : Bool) : (s.setResetHeld b).latchD = s.latchD := rfl
@[simp] theorem State.setResetHeld_outB (s : State) (b : Bool) : (s.setResetHeld b).outB = s.outB := rfl
@[simp] theorem State.setResetHeld_outC (s : State) (b : Bool) : (s.setResetHeld b).outC = s.outC := rfl
@[simp] theorem State.setResetHeld_outD (s : State) (b : Bool) : (s.setResetHeld b).outD = s.outD := rfl
@[simp] theorem State.setResetHeld_skip (s : State) (b : Bool) : (s.setResetHeld b).skip = s.skip := rfl
@[simp] theorem State.setResetHeld_mode (s : State) (b : Bool) : (s.setResetHeld b).mode = s.mode := rfl
@[simp] theorem State.setResetHeld_resetHeld (s : State) (b : Bool) : (s.setResetHeld b).resetHeld = b := rfl
@[simp] theorem State.setResetHeld_chip (s : State) (b : Bool) : (s.setResetHeld b).chip = s.chip := rfl
@[simp] theorem State.setResetHeld_env (s : State) (b : Bool) : (s.setResetHeld b).env = s.env := rfl

/-! ### setRom -/

@[simp] theorem State.setRom_pc (s : State) (rom : Memory) : (s.setRom rom).pc = s.pc := rfl
@[simp] theorem State.setRom_asr (s : State) (rom : Memory) : (s.setRom rom).asr = s.asr := rfl
@[simp] theorem State.setRom_depth (s : State) (rom : Memory) : (s.setRom rom).depth = s.depth := rfl
@[simp] theorem State.setRom_ram (s : State) (rom : Memory) : (s.setRom rom).ram = s.ram := rfl
@[simp] theorem State.setRom_bcd (s : State) (rom : Memory) : (s.setRom rom).bcd = s.bcd := rfl
@[simp] theorem State.setRom_cmp (s : State) (rom : Memory) : (s.setRom rom).cmp = s.cmp := rfl
@[simp] theorem State.setRom_cy (s : State) (rom : Memory) : (s.setRom rom).cy = s.cy := rfl
@[simp] theorem State.setRom_z (s : State) (rom : Memory) : (s.setRom rom).z = s.z := rfl
@[simp] theorem State.setRom_latchB (s : State) (rom : Memory) : (s.setRom rom).latchB = s.latchB := rfl
@[simp] theorem State.setRom_latchC (s : State) (rom : Memory) : (s.setRom rom).latchC = s.latchC := rfl
@[simp] theorem State.setRom_latchD (s : State) (rom : Memory) : (s.setRom rom).latchD = s.latchD := rfl
@[simp] theorem State.setRom_outB (s : State) (rom : Memory) : (s.setRom rom).outB = s.outB := rfl
@[simp] theorem State.setRom_outC (s : State) (rom : Memory) : (s.setRom rom).outC = s.outC := rfl
@[simp] theorem State.setRom_outD (s : State) (rom : Memory) : (s.setRom rom).outD = s.outD := rfl
@[simp] theorem State.setRom_skip (s : State) (rom : Memory) : (s.setRom rom).skip = s.skip := rfl
@[simp] theorem State.setRom_mode (s : State) (rom : Memory) : (s.setRom rom).mode = s.mode := rfl
@[simp] theorem State.setRom_resetHeld (s : State) (rom : Memory) : (s.setRom rom).resetHeld = s.resetHeld := rfl
@[simp] theorem State.setRom_chip (s : State) (rom : Memory) : (s.setRom rom).chip = { s.chip with rom := rom } := rfl
@[simp] theorem State.setRom_env (s : State) (rom : Memory) : (s.setRom rom).env = s.env := rfl

/-! ### endEvaluation -/

@[simp] theorem State.endEvaluation_pc (s : State) : s.endEvaluation.pc = s.pc := rfl
@[simp] theorem State.endEvaluation_asr (s : State) : s.endEvaluation.asr = s.asr := rfl
@[simp] theorem State.endEvaluation_depth (s : State) : s.endEvaluation.depth = s.depth := rfl
@[simp] theorem State.endEvaluation_ram (s : State) : s.endEvaluation.ram = s.ram := rfl
@[simp] theorem State.endEvaluation_bcd (s : State) : s.endEvaluation.bcd = s.bcd := rfl
@[simp] theorem State.endEvaluation_cmp (s : State) : s.endEvaluation.cmp = s.cmp := rfl
@[simp] theorem State.endEvaluation_cy (s : State) : s.endEvaluation.cy = s.cy := rfl
@[simp] theorem State.endEvaluation_z (s : State) : s.endEvaluation.z = s.z := rfl
@[simp] theorem State.endEvaluation_latchB (s : State) : s.endEvaluation.latchB = s.latchB := rfl
@[simp] theorem State.endEvaluation_latchC (s : State) : s.endEvaluation.latchC = s.latchC := rfl
@[simp] theorem State.endEvaluation_latchD (s : State) : s.endEvaluation.latchD = s.latchD := rfl
@[simp] theorem State.endEvaluation_outB (s : State) : s.endEvaluation.outB = s.outB := rfl
@[simp] theorem State.endEvaluation_outC (s : State) : s.endEvaluation.outC = s.outC := rfl
@[simp] theorem State.endEvaluation_outD (s : State) : s.endEvaluation.outD = s.outD := rfl
@[simp] theorem State.endEvaluation_skip (s : State) : s.endEvaluation.skip = s.skip := rfl
@[simp] theorem State.endEvaluation_mode (s : State) : s.endEvaluation.mode = s.mode := rfl
@[simp] theorem State.endEvaluation_resetHeld (s : State) : s.endEvaluation.resetHeld = s.resetHeld := rfl
@[simp] theorem State.endEvaluation_chip (s : State) : s.endEvaluation.chip = s.chip := rfl
@[simp] theorem State.endEvaluation_env (s : State) : s.endEvaluation.env = s.env.advance := rfl

/-! ### initialise -/

@[simp] theorem State.initialise_pc (s : State) : s.initialise.pc = 0#9 := rfl
@[simp] theorem State.initialise_asr (s : State) : s.initialise.asr = s.asr := rfl
@[simp] theorem State.initialise_depth (s : State) : s.initialise.depth = false := rfl
@[simp] theorem State.initialise_ram (s : State) : s.initialise.ram = s.ram := rfl
@[simp] theorem State.initialise_bcd (s : State) : s.initialise.bcd = false := rfl
@[simp] theorem State.initialise_cmp (s : State) : s.initialise.cmp = false := rfl
@[simp] theorem State.initialise_cy (s : State) : s.initialise.cy = false := rfl
@[simp] theorem State.initialise_z (s : State) : s.initialise.z = false := rfl
@[simp] theorem State.initialise_latchB (s : State) : s.initialise.latchB = s.latchB := rfl
@[simp] theorem State.initialise_latchC (s : State) : s.initialise.latchC = s.latchC := rfl
@[simp] theorem State.initialise_latchD (s : State) : s.initialise.latchD = s.latchD := rfl
@[simp] theorem State.initialise_outB (s : State) : s.initialise.outB = false := rfl
@[simp] theorem State.initialise_outC (s : State) : s.initialise.outC = false := rfl
@[simp] theorem State.initialise_outD (s : State) : s.initialise.outD = false := rfl
@[simp] theorem State.initialise_skip (s : State) : s.initialise.skip = false := rfl
@[simp] theorem State.initialise_mode (s : State) : s.initialise.mode = s.mode := rfl
@[simp] theorem State.initialise_resetHeld (s : State) : s.initialise.resetHeld = s.resetHeld := rfl
@[simp] theorem State.initialise_chip (s : State) : s.initialise.chip = s.chip := rfl
@[simp] theorem State.initialise_env (s : State) : s.initialise.env = s.env := rfl

/-! ### writePort .p0b -/

@[simp] theorem State.writePort_p0b_pc (s : State) (v : Nibble) : (s.writePort .p0b v).pc = s.pc := rfl
@[simp] theorem State.writePort_p0b_asr (s : State) (v : Nibble) : (s.writePort .p0b v).asr = s.asr := rfl
@[simp] theorem State.writePort_p0b_depth (s : State) (v : Nibble) : (s.writePort .p0b v).depth = s.depth := rfl
@[simp] theorem State.writePort_p0b_ram (s : State) (v : Nibble) : (s.writePort .p0b v).ram = s.ram := rfl
@[simp] theorem State.writePort_p0b_bcd (s : State) (v : Nibble) : (s.writePort .p0b v).bcd = s.bcd := rfl
@[simp] theorem State.writePort_p0b_cmp (s : State) (v : Nibble) : (s.writePort .p0b v).cmp = s.cmp := rfl
@[simp] theorem State.writePort_p0b_cy (s : State) (v : Nibble) : (s.writePort .p0b v).cy = s.cy := rfl
@[simp] theorem State.writePort_p0b_z (s : State) (v : Nibble) : (s.writePort .p0b v).z = s.z := rfl
@[simp] theorem State.writePort_p0b_latchB (s : State) (v : Nibble) : (s.writePort .p0b v).latchB = v.extractLsb' 0 3 := rfl
@[simp] theorem State.writePort_p0b_latchC (s : State) (v : Nibble) : (s.writePort .p0b v).latchC = s.latchC := rfl
@[simp] theorem State.writePort_p0b_latchD (s : State) (v : Nibble) : (s.writePort .p0b v).latchD = s.latchD := rfl
@[simp] theorem State.writePort_p0b_outB (s : State) (v : Nibble) : (s.writePort .p0b v).outB = true := rfl
@[simp] theorem State.writePort_p0b_outC (s : State) (v : Nibble) : (s.writePort .p0b v).outC = s.outC := rfl
@[simp] theorem State.writePort_p0b_outD (s : State) (v : Nibble) : (s.writePort .p0b v).outD = s.outD := rfl
@[simp] theorem State.writePort_p0b_skip (s : State) (v : Nibble) : (s.writePort .p0b v).skip = s.skip := rfl
@[simp] theorem State.writePort_p0b_mode (s : State) (v : Nibble) : (s.writePort .p0b v).mode = s.mode := rfl
@[simp] theorem State.writePort_p0b_resetHeld (s : State) (v : Nibble) : (s.writePort .p0b v).resetHeld = s.resetHeld := rfl
@[simp] theorem State.writePort_p0b_chip (s : State) (v : Nibble) : (s.writePort .p0b v).chip = s.chip := rfl
@[simp] theorem State.writePort_p0b_env (s : State) (v : Nibble) : (s.writePort .p0b v).env = s.env := rfl

/-! ### writePort .p0c -/

@[simp] theorem State.writePort_p0c_pc (s : State) (v : Nibble) : (s.writePort .p0c v).pc = s.pc := rfl
@[simp] theorem State.writePort_p0c_asr (s : State) (v : Nibble) : (s.writePort .p0c v).asr = s.asr := rfl
@[simp] theorem State.writePort_p0c_depth (s : State) (v : Nibble) : (s.writePort .p0c v).depth = s.depth := rfl
@[simp] theorem State.writePort_p0c_ram (s : State) (v : Nibble) : (s.writePort .p0c v).ram = s.ram := rfl
@[simp] theorem State.writePort_p0c_bcd (s : State) (v : Nibble) : (s.writePort .p0c v).bcd = s.bcd := rfl
@[simp] theorem State.writePort_p0c_cmp (s : State) (v : Nibble) : (s.writePort .p0c v).cmp = s.cmp := rfl
@[simp] theorem State.writePort_p0c_cy (s : State) (v : Nibble) : (s.writePort .p0c v).cy = s.cy := rfl
@[simp] theorem State.writePort_p0c_z (s : State) (v : Nibble) : (s.writePort .p0c v).z = s.z := rfl
@[simp] theorem State.writePort_p0c_latchB (s : State) (v : Nibble) : (s.writePort .p0c v).latchB = s.latchB := rfl
@[simp] theorem State.writePort_p0c_latchC (s : State) (v : Nibble) : (s.writePort .p0c v).latchC = v := rfl
@[simp] theorem State.writePort_p0c_latchD (s : State) (v : Nibble) : (s.writePort .p0c v).latchD = s.latchD := rfl
@[simp] theorem State.writePort_p0c_outB (s : State) (v : Nibble) : (s.writePort .p0c v).outB = s.outB := rfl
@[simp] theorem State.writePort_p0c_outC (s : State) (v : Nibble) : (s.writePort .p0c v).outC = true := rfl
@[simp] theorem State.writePort_p0c_outD (s : State) (v : Nibble) : (s.writePort .p0c v).outD = s.outD := rfl
@[simp] theorem State.writePort_p0c_skip (s : State) (v : Nibble) : (s.writePort .p0c v).skip = s.skip := rfl
@[simp] theorem State.writePort_p0c_mode (s : State) (v : Nibble) : (s.writePort .p0c v).mode = s.mode := rfl
@[simp] theorem State.writePort_p0c_resetHeld (s : State) (v : Nibble) : (s.writePort .p0c v).resetHeld = s.resetHeld := rfl
@[simp] theorem State.writePort_p0c_chip (s : State) (v : Nibble) : (s.writePort .p0c v).chip = s.chip := rfl
@[simp] theorem State.writePort_p0c_env (s : State) (v : Nibble) : (s.writePort .p0c v).env = s.env := rfl

/-! ### writePort .p0d -/

@[simp] theorem State.writePort_p0d_pc (s : State) (v : Nibble) : (s.writePort .p0d v).pc = s.pc := rfl
@[simp] theorem State.writePort_p0d_asr (s : State) (v : Nibble) : (s.writePort .p0d v).asr = s.asr := rfl
@[simp] theorem State.writePort_p0d_depth (s : State) (v : Nibble) : (s.writePort .p0d v).depth = s.depth := rfl
@[simp] theorem State.writePort_p0d_ram (s : State) (v : Nibble) : (s.writePort .p0d v).ram = s.ram := rfl
@[simp] theorem State.writePort_p0d_bcd (s : State) (v : Nibble) : (s.writePort .p0d v).bcd = s.bcd := rfl
@[simp] theorem State.writePort_p0d_cmp (s : State) (v : Nibble) : (s.writePort .p0d v).cmp = s.cmp := rfl
@[simp] theorem State.writePort_p0d_cy (s : State) (v : Nibble) : (s.writePort .p0d v).cy = s.cy := rfl
@[simp] theorem State.writePort_p0d_z (s : State) (v : Nibble) : (s.writePort .p0d v).z = s.z := rfl
@[simp] theorem State.writePort_p0d_latchB (s : State) (v : Nibble) : (s.writePort .p0d v).latchB = s.latchB := rfl
@[simp] theorem State.writePort_p0d_latchC (s : State) (v : Nibble) : (s.writePort .p0d v).latchC = s.latchC := rfl
@[simp] theorem State.writePort_p0d_latchD (s : State) (v : Nibble) : (s.writePort .p0d v).latchD = v := rfl
@[simp] theorem State.writePort_p0d_outB (s : State) (v : Nibble) : (s.writePort .p0d v).outB = s.outB := rfl
@[simp] theorem State.writePort_p0d_outC (s : State) (v : Nibble) : (s.writePort .p0d v).outC = s.outC := rfl
@[simp] theorem State.writePort_p0d_outD (s : State) (v : Nibble) : (s.writePort .p0d v).outD = true := rfl
@[simp] theorem State.writePort_p0d_skip (s : State) (v : Nibble) : (s.writePort .p0d v).skip = s.skip := rfl
@[simp] theorem State.writePort_p0d_mode (s : State) (v : Nibble) : (s.writePort .p0d v).mode = s.mode := rfl
@[simp] theorem State.writePort_p0d_resetHeld (s : State) (v : Nibble) : (s.writePort .p0d v).resetHeld = s.resetHeld := rfl
@[simp] theorem State.writePort_p0d_chip (s : State) (v : Nibble) : (s.writePort .p0d v).chip = s.chip := rfl
@[simp] theorem State.writePort_p0d_env (s : State) (v : Nibble) : (s.writePort .p0d v).env = s.env := rfl

/-! ### skipIf -/

@[simp] theorem State.skipIf_pc (s : State) (c : Bool) : (s.skipIf c).pc = s.pc := by cases c <;> rfl
@[simp] theorem State.skipIf_asr (s : State) (c : Bool) : (s.skipIf c).asr = s.asr := by cases c <;> rfl
@[simp] theorem State.skipIf_depth (s : State) (c : Bool) : (s.skipIf c).depth = s.depth := by cases c <;> rfl
@[simp] theorem State.skipIf_ram (s : State) (c : Bool) : (s.skipIf c).ram = s.ram := by cases c <;> rfl
@[simp] theorem State.skipIf_bcd (s : State) (c : Bool) : (s.skipIf c).bcd = s.bcd := by cases c <;> rfl
@[simp] theorem State.skipIf_cmp (s : State) (c : Bool) : (s.skipIf c).cmp = s.cmp := by cases c <;> rfl
@[simp] theorem State.skipIf_cy (s : State) (c : Bool) : (s.skipIf c).cy = s.cy := by cases c <;> rfl
@[simp] theorem State.skipIf_z (s : State) (c : Bool) : (s.skipIf c).z = s.z := by cases c <;> rfl
@[simp] theorem State.skipIf_latchB (s : State) (c : Bool) : (s.skipIf c).latchB = s.latchB := by cases c <;> rfl
@[simp] theorem State.skipIf_latchC (s : State) (c : Bool) : (s.skipIf c).latchC = s.latchC := by cases c <;> rfl
@[simp] theorem State.skipIf_latchD (s : State) (c : Bool) : (s.skipIf c).latchD = s.latchD := by cases c <;> rfl
@[simp] theorem State.skipIf_outB (s : State) (c : Bool) : (s.skipIf c).outB = s.outB := by cases c <;> rfl
@[simp] theorem State.skipIf_outC (s : State) (c : Bool) : (s.skipIf c).outC = s.outC := by cases c <;> rfl
@[simp] theorem State.skipIf_outD (s : State) (c : Bool) : (s.skipIf c).outD = s.outD := by cases c <;> rfl
@[simp] theorem State.skipIf_skip (s : State) (c : Bool) : (s.skipIf c).skip = (c || s.skip) := by cases c <;> rfl
@[simp] theorem State.skipIf_mode (s : State) (c : Bool) : (s.skipIf c).mode = s.mode := by cases c <;> rfl
@[simp] theorem State.skipIf_resetHeld (s : State) (c : Bool) : (s.skipIf c).resetHeld = s.resetHeld := by cases c <;> rfl
@[simp] theorem State.skipIf_chip (s : State) (c : Bool) : (s.skipIf c).chip = s.chip := by cases c <;> rfl
@[simp] theorem State.skipIf_env (s : State) (c : Bool) : (s.skipIf c).env = s.env := by cases c <;> rfl

/-! ### writePort, whatever the port -/

@[simp] theorem State.writePort_pc (s : State) (p : Port) (v : Nibble) : (s.writePort p v).pc = s.pc := by cases p <;> rfl
@[simp] theorem State.writePort_asr (s : State) (p : Port) (v : Nibble) : (s.writePort p v).asr = s.asr := by cases p <;> rfl
@[simp] theorem State.writePort_depth (s : State) (p : Port) (v : Nibble) : (s.writePort p v).depth = s.depth := by cases p <;> rfl
@[simp] theorem State.writePort_ram (s : State) (p : Port) (v : Nibble) : (s.writePort p v).ram = s.ram := by cases p <;> rfl
@[simp] theorem State.writePort_bcd (s : State) (p : Port) (v : Nibble) : (s.writePort p v).bcd = s.bcd := by cases p <;> rfl
@[simp] theorem State.writePort_cmp (s : State) (p : Port) (v : Nibble) : (s.writePort p v).cmp = s.cmp := by cases p <;> rfl
@[simp] theorem State.writePort_cy (s : State) (p : Port) (v : Nibble) : (s.writePort p v).cy = s.cy := by cases p <;> rfl
@[simp] theorem State.writePort_z (s : State) (p : Port) (v : Nibble) : (s.writePort p v).z = s.z := by cases p <;> rfl
@[simp] theorem State.writePort_skip (s : State) (p : Port) (v : Nibble) : (s.writePort p v).skip = s.skip := by cases p <;> rfl
@[simp] theorem State.writePort_mode (s : State) (p : Port) (v : Nibble) : (s.writePort p v).mode = s.mode := by cases p <;> rfl
@[simp] theorem State.writePort_resetHeld (s : State) (p : Port) (v : Nibble) : (s.writePort p v).resetHeld = s.resetHeld := by cases p <;> rfl
@[simp] theorem State.writePort_chip (s : State) (p : Port) (v : Nibble) : (s.writePort p v).chip = s.chip := by cases p <;> rfl
@[simp] theorem State.writePort_env (s : State) (p : Port) (v : Nibble) : (s.writePort p v).env = s.env := by cases p <;> rfl

/-! ### the registers -/

/-- A register depends on the RAM alone. -/
theorem State.reg_congr {s t : State} (h : t.ram = s.ram) (r : RegNum) : t.reg r = s.reg r := by simp only [State.reg, h]

/-- Read after write, on every register (10_state.md R21, 20_memory.md R74). -/
theorem State.reg_setReg (s : State) (r k : RegNum) (v : Nibble) :
    (s.setReg r v).reg k = if k = r then v else s.reg k := by
  by_cases h : k = r
  · simp [State.reg, h]
  · have hne : r.toNat ≠ k.toNat := fun e => h (BitVec.eq_of_toNat_eq e.symm)
    simp [State.reg, h, hne]

@[simp] theorem State.reg_setReg_same (s : State) (r : RegNum) (v : Nibble) : (s.setReg r v).reg r = v := by
  simp [State.reg_setReg]

theorem State.reg_setReg_other (s : State) {r k : RegNum} (v : Nibble) (h : k ≠ r) : (s.setReg r v).reg k = s.reg k := by
  simp [State.reg_setReg, h]

@[simp] theorem State.nextPc_reg (s : State) (k : RegNum) : s.nextPc.reg k = s.reg k := rfl
@[simp] theorem State.jump_reg (s : State) (a : ProgAddr) (k : RegNum) : (s.jump a).reg k = s.reg k := rfl
@[simp] theorem State.setSkip_reg (s : State) (b : Bool) (k : RegNum) : (s.setSkip b).reg k = s.reg k := rfl
@[simp] theorem State.setCarryZero_reg (s : State) (c x : Bool) (k : RegNum) : (s.setCarryZero c x).reg k = s.reg k := rfl
@[simp] theorem State.setCarry_reg (s : State) (c : Bool) (k : RegNum) : (s.setCarry c).reg k = s.reg k := rfl
@[simp] theorem State.clearCmp_reg (s : State) (k : RegNum) : s.clearCmp.reg k = s.reg k := rfl
@[simp] theorem State.setBcdNibble_reg (s : State) (v : Nibble) (k : RegNum) : (s.setBcdNibble v).reg k = s.reg k := rfl
@[simp] theorem State.setPsw_reg (s : State) (v : Nibble) (k : RegNum) : (s.setPsw v).reg k = s.reg k := rfl
@[simp] theorem State.pushReturn_reg (s : State) (a : ProgAddr) (k : RegNum) : (s.pushReturn a).reg k = s.reg k := rfl
@[simp] theorem State.popReturn_reg (s : State) (k : RegNum) : s.popReturn.reg k = s.reg k := rfl
@[simp] theorem State.setMode_reg (s : State) (m : Mode) (k : RegNum) : (s.setMode m).reg k = s.reg k := rfl
@[simp] theorem State.setResetHeld_reg (s : State) (b : Bool) (k : RegNum) : (s.setResetHeld b).reg k = s.reg k := rfl
@[simp] theorem State.setRom_reg (s : State) (rom : Memory) (k : RegNum) : (s.setRom rom).reg k = s.reg k := rfl
@[simp] theorem State.endEvaluation_reg (s : State) (k : RegNum) : s.endEvaluation.reg k = s.reg k := rfl
@[simp] theorem State.initialise_reg (s : State) (k : RegNum) : s.initialise.reg k = s.reg k := rfl
@[simp] theorem State.writePort_reg (s : State) (p : Port) (v : Nibble) (k : RegNum) : (s.writePort p v).reg k = s.reg k := by cases p <;> rfl
@[simp] theorem State.skipIf_reg (s : State) (c : Bool) (k : RegNum) : (s.skipIf c).reg k = s.reg k := by cases c <;> rfl

/-! ### the reset event -/

@[simp] theorem resetEvent_pc (s : State) : (resetEvent s).pc = 0#9 := rfl
@[simp] theorem resetEvent_asr (s : State) : (resetEvent s).asr = Config.asrAfterReset s.env.tick := rfl
@[simp] theorem resetEvent_depth (s : State) : (resetEvent s).depth = false := rfl
@[simp] theorem resetEvent_ram (s : State) : (resetEvent s).ram = if s.mode = .run then freeRam s.env.tick else s.ram := rfl
@[simp] theorem resetEvent_bcd (s : State) : (resetEvent s).bcd = false := rfl
@[simp] theorem resetEvent_cmp (s : State) : (resetEvent s).cmp = false := rfl
@[simp] theorem resetEvent_cy (s : State) : (resetEvent s).cy = false := rfl
@[simp] theorem resetEvent_z (s : State) : (resetEvent s).z = false := rfl
@[simp] theorem resetEvent_latchB (s : State) : (resetEvent s).latchB = (Config.latchAfterReset s.env.tick .p0b).extractLsb' 0 3 := rfl
@[simp] theorem resetEvent_latchC (s : State) : (resetEvent s).latchC = Config.latchAfterReset s.env.tick .p0c := rfl
@[simp] theorem resetEvent_latchD (s : State) : (resetEvent s).latchD = Config.latchAfterReset s.env.tick .p0d := rfl
@[simp] theorem resetEvent_outB (s : State) : (resetEvent s).outB = false := rfl
@[simp] theorem resetEvent_outC (s : State) : (resetEvent s).outC = false := rfl
@[simp] theorem resetEvent_outD (s : State) : (resetEvent s).outD = false := rfl
@[simp] theorem resetEvent_skip (s : State) : (resetEvent s).skip = false := rfl
@[simp] theorem resetEvent_mode (s : State) : (resetEvent s).mode = .run := rfl
@[simp] theorem resetEvent_resetHeld (s : State) : (resetEvent s).resetHeld = s.resetHeld := rfl
@[simp] theorem resetEvent_chip (s : State) : (resetEvent s).chip = s.chip := rfl
@[simp] theorem resetEvent_env (s : State) : (resetEvent s).env = s.env := rfl

end Sys2Proof.Machine
end

