-- ==== Sys2Proof/Laws/Ops.lean ====
section
/-! SUPPORT. One lemma for each shared operation that says once what it can do: the program image, the data-memory map,
reads and writes of the data memory, and the execution shapes of the families. -/

namespace Sys2Proof.Machine

/-! ## Program image -/

theorem Memory.read_write_same (m : Memory) (a : Nat) (b : Byte) : Memory.read (Memory.write m a b) a = some b := by
  induction m with
  | nil => simp [Memory.write, Memory.read]
  | cons c rest ih =>
    obtain ⟨k, x⟩ := c
    by_cases h1 : a < k
    · simp [Memory.write, Memory.read, h1]
    · by_cases h2 : a = k
      · simp [Memory.write, Memory.read, h2]
      · have h3 : k ≠ a := fun h => h2 h.symm
        simp [Memory.write, Memory.read, h1, h2, h3, ih]

theorem Memory.read_write_other (m : Memory) {a k : Nat} (b : Byte) (h : k ≠ a) :
    Memory.read (Memory.write m a b) k = Memory.read m k := by
  have hak : a ≠ k := fun e => h e.symm
  induction m with
  | nil => simp [Memory.write, Memory.read, hak]
  | cons c rest ih =>
    obtain ⟨j, x⟩ := c
    by_cases h1 : a < j
    · simp [Memory.write, Memory.read, h1, hak]
    · by_cases h2 : a = j
      · subst h2
        simp [Memory.write, Memory.read, hak]
      · simp [Memory.write, Memory.read, h1, h2, ih]

/-- Writing keeps an image sorted from any bound below the cell written. -/
theorem Memory.sortedFrom_write (m : Memory) (lo a : Nat) (b : Byte) (h : Memory.sortedFrom lo m = true)
    (hlo : lo ≤ a) (ha : a < 1024) : Memory.sortedFrom lo (Memory.write m a b) = true := by
  induction m generalizing lo with
  | nil => simp [Memory.write, Memory.sortedFrom, hlo, ha]
  | cons c rest ih =>
    obtain ⟨k, x⟩ := c
    simp only [Memory.sortedFrom, Bool.and_eq_true, decide_eq_true_eq] at h
    obtain ⟨⟨hk, hk'⟩, hrest⟩ := h
    by_cases h1 : a < k
    · simp only [Memory.write, h1, if_true, Memory.sortedFrom, Bool.and_eq_true, decide_eq_true_eq]
      exact ⟨⟨hlo, ha⟩, ⟨h1, hk'⟩, hrest⟩
    · by_cases h2 : a = k
      · subst h2
        simp [Memory.write, Memory.sortedFrom, hlo, ha, hrest]
      · have hka : k + 1 ≤ a := by omega
        simp only [Memory.write, h1, h2, if_false, Memory.sortedFrom, Bool.and_eq_true, decide_eq_true_eq]
        exact ⟨⟨hk, hk'⟩, ih (k + 1) hrest hka⟩

/-- Placing a byte keeps the canonical form. -/
theorem Memory.wf_write (m : Memory) (a : Nat) (b : Byte) (h : Memory.wf m = true) (ha : a < 1024) :
    Memory.wf (Memory.write m a b) = true :=
  Memory.sortedFrom_write m 0 a b h (Nat.zero_le a) ha

/-- Placing a word keeps the canonical form. -/
theorem Memory.wf_writeWord (m : Memory) (a : ProgAddr) (w : Word) (h : Memory.wf m = true) :
    Memory.wf (Memory.writeWord m a w) = true := by
  have ha := a.isLt
  exact Memory.wf_write _ _ _ (Memory.wf_write _ _ _ h (by omega)) (by omega)

/-- The program memory right after reset has the canonical form. -/
theorem Memory.wf_reset : Memory.wf State.reset.chip.rom = true := rfl

/-- The word placed at an address is the word read there. -/
theorem Memory.readWord_writeWord_same (m : Memory) (a : ProgAddr) (w : Word) :
    Memory.readWord (Memory.writeWord m a w) a = some w := by
  have h1 : Memory.read (Memory.writeWord m a w) (2 * a.toNat) = some (w.extractLsb' 0 8) := by
    rw [Memory.writeWord, Memory.read_write_other _ _ (by omega), Memory.read_write_same]
  have h2 : Memory.read (Memory.writeWord m a w) (2 * a.toNat + 1) = some (w.extractLsb' 8 8) := by
    rw [Memory.writeWord, Memory.read_write_same]
  have hw : (w.extractLsb' 8 8 ++ w.extractLsb' 0 8 : Word) = w := by
    ext i hi
    grind
  simp only [Memory.readWord, h1, h2, hw]

/-- Placing a word changes no other word. -/
theorem Memory.readWord_writeWord_other (m : Memory) {a k : ProgAddr} (w : Word) (h : k ≠ a) :
    Memory.readWord (Memory.writeWord m a w) k = Memory.readWord m k := by
  have hn : k.toNat ≠ a.toNat := fun e => h (BitVec.eq_of_toNat_eq e)
  simp only [Memory.readWord, Memory.writeWord]
  rw [Memory.read_write_other _ _ (by omega), Memory.read_write_other _ _ (by omega),
    Memory.read_write_other _ _ (by omega), Memory.read_write_other _ _ (by omega)]

/-! ## The data-memory map -/

/-- Row 0 is the register file (10_state.md R22). -/
@[simp] theorem place_regAddr (r : RegNum) : place (regAddr r) = .ram r := by
  revert r
  decide

@[simp] theorem place_portB : place 0x71#7 = .port .p0b := by decide
@[simp] theorem place_portC : place 0x72#7 = .port .p0c := by decide
@[simp] theorem place_portD : place 0x73#7 = .port .p0d := by decide
@[simp] theorem place_bcdNibble : place 0x7E#7 = .bcdNibble := by decide
@[simp] theorem place_psw : place 0x7F#7 = .psw := by decide

/-- An address is a register's exactly where the map says so. -/
theorem place_eq_ram (m : DataAddr) (r : RegNum) : place m = .ram r ↔ m = regAddr r := by
  revert m r
  decide

/-- Bit k of four bits put together. -/
@[simp] theorem nibbleOf_bit0 (b3 b2 b1 b0 : Bool) : (nibbleOf b3 b2 b1 b0).getLsbD 0 = b0 := by
  cases b3 <;> cases b2 <;> cases b1 <;> cases b0 <;> rfl

@[simp] theorem nibbleOf_bit1 (b3 b2 b1 b0 : Bool) : (nibbleOf b3 b2 b1 b0).getLsbD 1 = b1 := by
  cases b3 <;> cases b2 <;> cases b1 <;> cases b0 <;> rfl

@[simp] theorem nibbleOf_bit2 (b3 b2 b1 b0 : Bool) : (nibbleOf b3 b2 b1 b0).getLsbD 2 = b2 := by
  cases b3 <;> cases b2 <;> cases b1 <;> cases b0 <;> rfl

@[simp] theorem nibbleOf_bit3 (b3 b2 b1 b0 : Bool) : (nibbleOf b3 b2 b1 b0).getLsbD 3 = b3 := by
  cases b3 <;> cases b2 <;> cases b1 <;> cases b0 <;> rfl

@[simp] theorem nibbleOf_getElem0 (b3 b2 b1 b0 : Bool) : (nibbleOf b3 b2 b1 b0)[0] = b0 := by
  cases b3 <;> cases b2 <;> cases b1 <;> cases b0 <;> rfl

@[simp] theorem nibbleOf_getElem1 (b3 b2 b1 b0 : Bool) : (nibbleOf b3 b2 b1 b0)[1] = b1 := by
  cases b3 <;> cases b2 <;> cases b1 <;> cases b0 <;> rfl

@[simp] theorem nibbleOf_getElem2 (b3 b2 b1 b0 : Bool) : (nibbleOf b3 b2 b1 b0)[2] = b2 := by
  cases b3 <;> cases b2 <;> cases b1 <;> cases b0 <;> rfl

@[simp] theorem nibbleOf_getElem3 (b3 b2 b1 b0 : Bool) : (nibbleOf b3 b2 b1 b0)[3] = b3 := by
  cases b3 <;> cases b2 <;> cases b1 <;> cases b0 <;> rfl

/-! ## Reads and writes of the data memory -/

@[simp] theorem memRead_regAddr (s : State) (r : RegNum) : memRead s (regAddr r) = .ok (s.reg r) := by
  simp [memRead]

@[simp] theorem memWrite_regAddr (s : State) (r : RegNum) (v : Nibble) :
    memWrite s (regAddr r) v = .ok (s.setReg r v) := by
  simp [memWrite]

/-- Whether a write finds a place does not depend on the flags: what the policy says of an absent address. -/
theorem writeAbsent_ok {s t : State} {m : DataAddr} (h : writeAbsent s m = .ok t) : t = s := by
  unfold writeAbsent at h
  split at h
  · cases h
  · exact (Except.ok.inj h).symm
  · exact (Except.ok.inj h).symm

/-- All that a write to the data memory can do. -/
theorem memWrite_ok {s t : State} {m : DataAddr} {v : Nibble} (h : memWrite s m v = .ok t) :
    (∃ r, place m = .ram r ∧ t = s.setReg r v) ∨ (∃ p, place m = .port p ∧ t = s.writePort p v) ∨
      (place m = .bcdNibble ∧ t = s.setBcdNibble v) ∨ (place m = .psw ∧ t = s.setPsw v) ∨
      (place m = .absent ∧ t = s) := by
  unfold memWrite at h
  split at h
  · next r hp => exact .inl ⟨r, hp, (Except.ok.inj h).symm⟩
  · next p hp => exact .inr (.inl ⟨p, hp, (Except.ok.inj h).symm⟩)
  · next hp => exact .inr (.inr (.inl ⟨hp, (Except.ok.inj h).symm⟩))
  · next hp => exact .inr (.inr (.inr (.inl ⟨hp, (Except.ok.inj h).symm⟩)))
  · next hp => exact .inr (.inr (.inr (.inr ⟨hp, writeAbsent_ok h⟩)))

/-- A write to the data memory leaves the pc, the stack, the skip, the mode, the chip and the environment alone. -/
theorem memWrite_frame {s t : State} {m : DataAddr} {v : Nibble} (h : memWrite s m v = .ok t) :
    t.pc = s.pc ∧ t.asr = s.asr ∧ t.depth = s.depth ∧ t.skip = s.skip ∧ t.mode = s.mode ∧
      t.resetHeld = s.resetHeld ∧ t.chip = s.chip ∧ t.env = s.env := by
  obtain ⟨r, -, rfl⟩ | ⟨p, -, rfl⟩ | ⟨-, rfl⟩ | ⟨-, rfl⟩ | ⟨-, rfl⟩ := memWrite_ok h <;> simp

/-- Moving the pc changes no value read. -/
theorem memRead_nextPc {s : State} {m : DataAddr} {v : Nibble} (h : memRead s m = .ok v) :
    memRead s.nextPc m = .ok v := by
  unfold memRead at h ⊢
  split at h
  · exact h
  · next p _ => cases p <;> exact h
  · exact h
  · exact h
  · unfold readAbsent at h ⊢
    cases hp : s.chip.absent <;> simp_all

/-- A read and a write stop only on an absent address under the policy `fault`. -/
theorem memRead_error {s : State} {m : DataAddr} {f : Fault} (h : memRead s m = .error f) :
    place m = .absent ∧ s.chip.absent = .fault ∧ f = .unimplementedDataAddress m s.pc := by
  unfold memRead at h
  split at h <;> try cases h
  next hp =>
    unfold readAbsent at h
    split at h <;> try cases h
    next ha => exact ⟨hp, ha, rfl⟩

theorem memWrite_error {s : State} {m : DataAddr} {v : Nibble} {f : Fault} (h : memWrite s m v = .error f) :
    place m = .absent ∧ s.chip.absent = .fault ∧ f = .unimplementedDataAddress m s.pc := by
  unfold memWrite at h
  split at h <;> try cases h
  next hp =>
    unfold writeAbsent at h
    split at h <;> try cases h
    next ha => exact ⟨hp, ha, rfl⟩

/-- Where a read goes through, so does a write. -/
theorem memWrite_of_memRead {s : State} {m : DataAddr} {a : Nibble} (h : memRead s m = .ok a) (s' : State)
    (hc : s'.chip = s.chip) (v : Nibble) : ∃ t, memWrite s' m v = .ok t := by
  cases hw : memWrite s' m v with
  | ok t => exact ⟨t, rfl⟩
  | error f =>
    obtain ⟨hp, ha, -⟩ := memWrite_error hw
    rw [hc] at ha
    simp [memRead, hp, readAbsent, ha] at h

/-! ## Execution shapes -/

@[simp] theorem onOk_ok {α : Type} (a : α) (k : α → Result) : onOk (.ok a) k = k a := rfl
@[simp] theorem onOk_error {α : Type} (f : Fault) (k : α → Result) : onOk (.error f) k = .fault f := rfl

theorem onOk_next {α : Type} {x : Except Fault α} {k : α → Result} {t : State} (h : onOk x k = .next t) :
    ∃ a, x = .ok a ∧ k a = .next t := by
  cases x with
  | ok a => exact ⟨a, rfl, h⟩
  | error f => cases h

theorem onOk_fault {α : Type} {x : Except Fault α} {k : α → Result} {f : Fault} (h : onOk x k = .fault f) :
    x = .error f ∨ ∃ a, x = .ok a ∧ k a = .fault f := by
  cases x with
  | ok a => exact .inr ⟨a, rfl, h⟩
  | error g =>
    cases h
    exact .inl rfl

theorem operandsRM_ok {s : State} {r : RegNum} {m : DataAddr} {x : AluInput} (h : operandsRM s r m = .ok x) :
    memRead s m = .ok x.b ∧ x.a = s.reg r := by
  unfold operandsRM at h
  split at h
  · next b hb =>
    cases h
    exact ⟨hb, rfl⟩
  · cases h

theorem operandsMI_ok {s : State} {m : DataAddr} {n : Nibble} {x : AluInput} (h : operandsMI s m n = .ok x) :
    memRead s m = .ok x.a ∧ x.b = n := by
  unfold operandsMI at h
  split at h
  · next a ha =>
    cases h
    exact ⟨ha, rfl⟩
  · cases h

theorem operandsRM_of_memRead {s : State} {m : DataAddr} {b : Nibble} (h : memRead s m = .ok b) (r : RegNum) :
    operandsRM s r m = .ok { a := s.reg r, b := b } := by simp [operandsRM, h]

theorem operandsMI_of_memRead {s : State} {m : DataAddr} {a : Nibble} (h : memRead s m = .ok a) (n : Nibble) :
    operandsMI s m n = .ok { a := a, b := n } := by simp [operandsMI, h]

theorem operandsRM_error {s : State} {r : RegNum} {m : DataAddr} {f : Fault} (h : operandsRM s r m = .error f) :
    memRead s m = .error f := by
  unfold operandsRM at h
  split at h
  · cases h
  · next g hg =>
    cases h
    exact hg

theorem operandsMI_error {s : State} {m : DataAddr} {n : Nibble} {f : Fault} (h : operandsMI s m n = .error f) :
    memRead s m = .error f := by
  unfold operandsMI at h
  split at h
  · cases h
  · next g hg =>
    cases h
    exact hg

/-- A store that goes through is a write and the next pc. -/
theorem storeAt_next {s t : State} {d : DataAddr} {v : Nibble} (h : storeAt s d v = .next t) :
    ∃ u, memWrite s d v = .ok u ∧ t = u.nextPc := by
  obtain ⟨u, hu, hk⟩ := onOk_next h
  cases hk
  exact ⟨u, hu, rfl⟩

theorem storeAt_of_memWrite {s u : State} {d : DataAddr} {v : Nibble} (h : memWrite s d v = .ok u) :
    storeAt s d v = .next u.nextPc := by simp [storeAt, h]

/-- All that `arithExec` can do: the flags, and the store where CMP is 0 (40_arithmetic.md R147). -/
theorem arithExec_next {dir : Direction} {d : DataAddr} {x : AluInput} {c : Bool} {s t : State}
    (h : arithExec dir d x c s = .next t) :
    (s.cmp = true ∧ t = (s.setCarryZero (aluOut s.bcd dir x.a x.b c).carry
        (zeroAfter s.cmp s.z (aluOut s.bcd dir x.a x.b c).value)).nextPc) ∨
    (s.cmp = false ∧ ∃ u, memWrite (s.setCarryZero (aluOut s.bcd dir x.a x.b c).carry
        (zeroAfter s.cmp s.z (aluOut s.bcd dir x.a x.b c).value)) d (aluOut s.bcd dir x.a x.b c).value = .ok u ∧
        t = u.nextPc) := by
  unfold arithExec at h
  cases hc : s.cmp with
  | true =>
    simp only [hc, if_true] at h
    cases h
    exact .inl ⟨rfl, rfl⟩
  | false =>
    simp only [hc, Bool.false_eq_true, if_false] at h
    exact .inr ⟨rfl, storeAt_next h⟩

/-- The Z rule, by cases (10_state.md R33). -/
theorem zeroAfter_zero (cmp z : Bool) : zeroAfter cmp z 0#4 = (if cmp then z else true) := by simp [zeroAfter]

theorem zeroAfter_nonzero {v : Nibble} (cmp z : Bool) (h : v ≠ 0#4) : zeroAfter cmp z v = false := by
  simp [zeroAfter, h]

end Sys2Proof.Machine
end

