-- ==== Sys2Proof/Laws/PerInstr.lean ====
section
/-! SUPPORT. The family MatchesTable: the word of a well-formed instruction matches its own row of the instruction list
(30_encoding.md R113), one lemma per constructor. -/

namespace Sys2Proof.Laws

/-- The word of the instruction, if it is well formed, matches its row. -/
def MatchesTable.Statement (i : Instr) : Prop := i.wellFormed = true → (opcodeRow i).covers (encode i) = true

/-- A word packed from an operation code matches a row that fixes op alone. -/
theorem covers_opMask (op : BitVec 5) (mid : BitVec 7) (low : Nibble) :
    OpcodeRow.covers ⟨0xF800#16, packWord op 0#7 0#4⟩ (packWord op mid low) = true := by
  simp [OpcodeRow.covers, packWord_and_opMask]

theorem MatchesTable.addRM (r : RegNum) (m : DataAddr) : Statement (.addRM r m) :=
  fun _ => covers_opMask _ _ _

theorem MatchesTable.addMI (m : DataAddr) (n : Nibble) : Statement (.addMI m n) :=
  fun _ => covers_opMask _ _ _

theorem MatchesTable.addcRM (r : RegNum) (m : DataAddr) : Statement (.addcRM r m) :=
  fun _ => covers_opMask _ _ _

theorem MatchesTable.addcMI (m : DataAddr) (n : Nibble) : Statement (.addcMI m n) :=
  fun _ => covers_opMask _ _ _

theorem MatchesTable.subRM (r : RegNum) (m : DataAddr) : Statement (.subRM r m) :=
  fun _ => covers_opMask _ _ _

theorem MatchesTable.subMI (m : DataAddr) (n : Nibble) : Statement (.subMI m n) :=
  fun _ => covers_opMask _ _ _

theorem MatchesTable.subcRM (r : RegNum) (m : DataAddr) : Statement (.subcRM r m) :=
  fun _ => covers_opMask _ _ _

theorem MatchesTable.subcMI (m : DataAddr) (n : Nibble) : Statement (.subcMI m n) :=
  fun _ => covers_opMask _ _ _

theorem MatchesTable.orRM (r : RegNum) (m : DataAddr) : Statement (.orRM r m) :=
  fun _ => covers_opMask _ _ _

theorem MatchesTable.orMI (m : DataAddr) (n : Nibble) : Statement (.orMI m n) :=
  fun _ => covers_opMask _ _ _

theorem MatchesTable.andRM (r : RegNum) (m : DataAddr) : Statement (.andRM r m) :=
  fun _ => covers_opMask _ _ _

theorem MatchesTable.andMI (m : DataAddr) (n : Nibble) : Statement (.andMI m n) :=
  fun _ => covers_opMask _ _ _

theorem MatchesTable.xorRM (r : RegNum) (m : DataAddr) : Statement (.xorRM r m) :=
  fun _ => covers_opMask _ _ _

theorem MatchesTable.xorMI (m : DataAddr) (n : Nibble) : Statement (.xorMI m n) :=
  fun _ => covers_opMask _ _ _

theorem MatchesTable.skt (m : DataAddr) (n : Nibble) : Statement (.skt m n) :=
  fun _ => covers_opMask _ _ _

theorem MatchesTable.skf (m : DataAddr) (n : Nibble) : Statement (.skf m n) :=
  fun _ => covers_opMask _ _ _

theorem MatchesTable.ske (m : DataAddr) (n : Nibble) : Statement (.ske m n) :=
  fun _ => covers_opMask _ _ _

theorem MatchesTable.skne (m : DataAddr) (n : Nibble) : Statement (.skne m n) :=
  fun _ => covers_opMask _ _ _

theorem MatchesTable.skge (m : DataAddr) (n : Nibble) : Statement (.skge m n) :=
  fun _ => covers_opMask _ _ _

theorem MatchesTable.sklt (m : DataAddr) (n : Nibble) : Statement (.sklt m n) :=
  fun _ => covers_opMask _ _ _

theorem MatchesTable.rorc (r : RegNum) : Statement (.rorc r) :=
  fun _ => by
  simp only [OpcodeRow.covers, opcodeRow, encode, packWord_and_subMask]
  decide

theorem MatchesTable.ld (r : RegNum) (m : DataAddr) : Statement (.ld r m) :=
  fun _ => covers_opMask _ _ _

theorem MatchesTable.st (m : DataAddr) (r : RegNum) : Statement (.st m r) :=
  fun _ => covers_opMask _ _ _

theorem MatchesTable.mov (m : DataAddr) (n : Nibble) : Statement (.mov m n) :=
  fun _ => covers_opMask _ _ _

theorem MatchesTable.br (addr : BitVec 11) : Statement (.br addr) :=
  fun h => by
  have h' := (addrBitsZero_iff addr).mp h
  simp only [OpcodeRow.covers, opcodeRow, encode, beq_iff_eq]
  rw [show (0xFE00#16 : Word) = packAddr 31#5 0x600#11 by decide, packAddr_and, h']
  decide

theorem MatchesTable.call (addr : BitVec 11) : Statement (.call addr) :=
  fun h => by
  have h' := (addrBitsZero_iff addr).mp h
  simp only [OpcodeRow.covers, opcodeRow, encode, beq_iff_eq]
  rw [show (0xFE00#16 : Word) = packAddr 31#5 0x600#11 by decide, packAddr_and, h']
  decide

theorem MatchesTable.ret : Statement (.ret) :=
  fun _ => by decide

theorem MatchesTable.retsk : Statement (.retsk) :=
  fun _ => by decide

theorem MatchesTable.stop (c : Nibble) : Statement (.stop c) := by
  revert c
  unfold Statement
  decide

theorem MatchesTable.halt (c : Nibble) : Statement (.halt c) := by
  revert c
  unfold Statement
  decide

theorem MatchesTable.nop : Statement (.nop) :=
  fun _ => by decide

end Sys2Proof.Laws
end

