-- ==== Sys2Proof/Laws/Step.lean ====
section
/-! SUPPORT. What one evaluation and one step can do, said once (60_exceptions.md R301). -/

namespace Sys2Proof.Machine

theorem thenAdvance_next {r : Result} {t : State} (h : thenAdvance r = .next t) :
    ∃ u, r = .next u ∧ t = u.endEvaluation := by
  cases r with
  | next u =>
    cases h
    exact ⟨u, rfl, rfl⟩
  | fault f => cases h
  | refused x => cases h

/-- A step is one evaluation and the environment's move. -/
theorem step_next {s t : State} (h : step s = .next t) : ∃ u, evaluate s = .next u ∧ t = u.endEvaluation :=
  thenAdvance_next h

theorem step_of_evaluate {s u : State} (h : evaluate s = .next u) : step s = .next u.endEvaluation := by
  simp [step, h, thenAdvance]

/-- All that the instruction cycle can do: a skipped slot, or the decoded instruction. -/
theorem cpuStep_next {s t : State} (h : cpuStep s = .next t) :
    (s.skip = true ∧ t = (s.setSkip false).nextPc) ∨
    (s.skip = false ∧ ∃ w i, fetchWord s = some w ∧ decode w = .ok i ∧ exec i s = .next t) := by
  unfold cpuStep at h
  cases hs : s.skip with
  | true =>
    simp only [hs, if_true] at h
    cases h
    exact .inl ⟨rfl, rfl⟩
  | false =>
    simp only [hs, Bool.false_eq_true, if_false] at h
    split at h
    · cases h
    · next w hw =>
      split at h
      · cases h
      · next i hi => exact .inr ⟨rfl, w, i, hw, hi, h⟩

/-- All that an evaluation can do with RESET high. -/
theorem whileResetHigh_next {s t : State} (h : whileResetHigh s = .next t) :
    (s.mode = .run ∧ cpuStep s = .next t) ∨
    (s.mode = .halt .p0b0 ∧ t = (if pinLevel s .p0b0 then s.setMode .run else s)) ∨
    (s.mode = .stop .p0b1 ∧ t = (if pinLevel s .p0b1 then s.setMode .run else s)) ∨
    ((s.mode = .halt .resetOnly ∨ s.mode = .stop .resetOnly) ∧ t = s) := by
  unfold whileResetHigh at h
  split at h
  · next hm => exact .inl ⟨hm, h⟩
  · next hm =>
    cases h
    exact .inr (.inl ⟨hm, rfl⟩)
  · next hm =>
    cases h
    exact .inr (.inr (.inr ⟨.inl hm, rfl⟩))
  · next hm =>
    cases h
    exact .inr (.inr (.inl ⟨hm, rfl⟩))
  · next hm =>
    cases h
    exact .inr (.inr (.inr ⟨.inr hm, rfl⟩))

/-- All that an evaluation can do. -/
theorem evaluate_next {s t : State} (h : evaluate s = .next t) :
    (resetLevel s = false ∧ t = whileResetLow s) ∨
    (resetLevel s = true ∧ whileResetHigh (s.setResetHeld false) = .next t) := by
  unfold evaluate at h
  cases hr : resetLevel s with
  | true =>
    simp only [hr, if_true] at h
    exact .inr ⟨rfl, h⟩
  | false =>
    simp only [hr, Bool.false_eq_true, if_false] at h
    cases h
    exact .inl ⟨rfl, rfl⟩

/-- What the environment drives and the chip's parameters decide the RESET level. -/
theorem resetLevel_congr {s t : State} (hc : t.chip = s.chip) (he : t.env = s.env) : resetLevel t = resetLevel s := by
  simp only [resetLevel, hc, he]

/-- A pin's level depends on the latches, the directions, the chip's parameters and the environment alone. -/
theorem pinLevel_congr {s t : State} (hb : t.latchB = s.latchB) (hc : t.latchC = s.latchC) (hd : t.latchD = s.latchD)
    (ob : t.outB = s.outB) (oc : t.outC = s.outC) (od : t.outD = s.outD) (hchip : t.chip = s.chip)
    (he : t.env = s.env) (p : Pin) : pinLevel t p = pinLevel s p := by
  cases p <;> simp only [pinLevel, pinOut, wireLevel, hb, hc, hd, ob, oc, od, hchip, he]

@[simp] theorem pinLevel_setResetHeld (s : State) (b : Bool) (p : Pin) :
    pinLevel (s.setResetHeld b) p = pinLevel s p := pinLevel_congr rfl rfl rfl rfl rfl rfl rfl rfl p

@[simp] theorem fetchWord_setResetHeld (s : State) (b : Bool) : fetchWord (s.setResetHeld b) = fetchWord s := rfl

/-- The word placed at the fetch is the word the next step fetches (log entry 3). -/
theorem fetchWord_placedAtFetch (s : State) (w : Word) : fetchWord (placedAtFetch s w) = some w :=
  Memory.readWord_writeWord_same s.chip.rom s.pc w

end Sys2Proof.Machine
end

