-- ==== Sys2Proof/Tests/Slice0.lean ====
section
/-! SUPPORT. Tests of the model's own: well-formedness, one decode per constructor (words of 95_test_vectors.md
V-SRC-18), one-step vectors of 95_test_vectors.md, and, for every statement with hypotheses, a state and operands that
meet them. -/

namespace Sys2Proof.Tests

open Sys2Proof Sys2Proof.Machine Sys2Proof.Claims

/-! ## Well-formedness -/

theorem test_br_511_wellFormed : (Instr.br 511#11).wellFormed = true := by decide
theorem test_br_512_illFormed : (Instr.br 512#11).wellFormed = false := by decide
theorem test_br_1024_illFormed : (Instr.br 1024#11).wellFormed = false := by decide
theorem test_call_512_illFormed : (Instr.call 512#11).wellFormed = false := by decide
theorem test_stop_2_illFormed : (Instr.stop 2#4).wellFormed = false := by decide
theorem test_stop_8_illFormed : (Instr.stop 8#4).wellFormed = false := by decide
theorem test_halt_2_illFormed : (Instr.halt 2#4).wellFormed = false := by decide
theorem test_halt_4_illFormed : (Instr.halt 4#4).wellFormed = false := by decide

/-! ## Decoding (95_test_vectors.md V-SRC-18): the binary is the row's "op fR fC fL" -/

theorem test_decode_addRM : decode 0b0000011010100101#16 = .ok (.addRM 0x5#4 0x6A#7) := by decide

theorem test_decode_addMI : decode 0b1000011010100101#16 = .ok (.addMI 0x6A#7 0x5#4) := by decide

theorem test_decode_addcRM : decode 0b0001011111111111#16 = .ok (.addcRM 0xF#4 0x7F#7) := by decide

theorem test_decode_addcMI : decode 0b1001000000001111#16 = .ok (.addcMI 0x00#7 0xF#4) := by decide

theorem test_decode_subRM : decode 0b0000100011100001#16 = .ok (.subRM 0x1#4 0x0E#7) := by decide

theorem test_decode_subMI : decode 0b1000111100111001#16 = .ok (.subMI 0x73#7 0x9#4) := by decide

theorem test_decode_subcRM : decode 0b0001100010001000#16 = .ok (.subcRM 0x8#4 0x08#7) := by decide

theorem test_decode_subcMI : decode 0b1001111111100001#16 = .ok (.subcMI 0x7E#7 0x1#4) := by decide

theorem test_decode_orRM : decode 0b0011011100010010#16 = .ok (.orRM 0x2#4 0x71#7) := by decide

theorem test_decode_orMI : decode 0b1011011100101000#16 = .ok (.orMI 0x72#7 0b1000#4) := by decide

theorem test_decode_andRM : decode 0b0010000000111100#16 = .ok (.andRM 0xC#4 0x03#7) := by decide

theorem test_decode_andMI : decode 0b1010011100011011#16 = .ok (.andMI 0x71#7 0b1011#4) := by decide

theorem test_decode_xorRM : decode 0b0010100001110111#16 = .ok (.xorRM 0x7#4 0x07#7) := by decide

theorem test_decode_xorMI : decode 0b1010100011111111#16 = .ok (.xorMI 0x0F#7 0xF#4) := by decide

theorem test_decode_skt : decode 0b1111011100010001#16 = .ok (.skt 0x71#7 0b0001#4) := by decide

theorem test_decode_skf : decode 0b1111111111110100#16 = .ok (.skf 0x7F#7 0b0100#4) := by decide

theorem test_decode_ske : decode 0b0100100010101010#16 = .ok (.ske 0x0A#7 0xA#4) := by decide

theorem test_decode_skne : decode 0b0101100001010000#16 = .ok (.skne 0x05#7 0x0#4) := by decide

theorem test_decode_skge : decode 0b1100111100111000#16 = .ok (.skge 0x73#7 0x8#4) := by decide

theorem test_decode_sklt : decode 0b1101100011000011#16 = .ok (.sklt 0x0C#7 0x3#4) := by decide

theorem test_decode_rorc : decode 0b0011100001111001#16 = .ok (.rorc 0x9#4) := by decide

theorem test_decode_ld : decode 0b0100011100100100#16 = .ok (.ld 0x4#4 0x72#7) := by decide

theorem test_decode_st : decode 0b1100011100111011#16 = .ok (.st 0x73#7 0xB#4) := by decide

theorem test_decode_mov : decode 0b1110111111111010#16 = .ok (.mov 0x7F#7 0b1010#4) := by decide

theorem test_decode_br : decode 0b0110000110100101#16 = .ok (.br 0x1A5#11) := by decide

theorem test_decode_call : decode 0b1110000011110000#16 = .ok (.call 0x0F0#11) := by decide

theorem test_decode_ret : decode 0b0011100011100000#16 = .ok (.ret) := by decide

theorem test_decode_retsk : decode 0b0011100111100000#16 = .ok (.retsk) := by decide

theorem test_decode_stop_0 : decode 0b0011101011110000#16 = .ok (.stop 0b0000#4) := by decide

theorem test_decode_stop_1 : decode 0b0011101011110001#16 = .ok (.stop 0b0001#4) := by decide

theorem test_decode_halt_0 : decode 0b0011101111110000#16 = .ok (.halt 0b0000#4) := by decide

theorem test_decode_halt_1 : decode 0b0011101111110001#16 = .ok (.halt 0b0001#4) := by decide

theorem test_decode_nop : decode 0b0011110011110000#16 = .ok (.nop) := by decide

/-! ### Words that are no instruction (95_test_vectors.md section 2.7) -/

/-- BR3 -/
theorem test_reject_br_addr9 : decode 0x6200#16 = .error (.reservedAddressBits 0x200#11) := by decide

/-- BR11 -/
theorem test_reject_call_addr9 : decode 0xE200#16 = .error (.reservedAddressBits 0x200#11) := by decide

/-- OT2 -/
theorem test_reject_halt_2 : decode 0x3BF2#16 = .error (.reservedConditionBits 2#4) := by decide

/-- OT3 -/
theorem test_reject_stop_8 : decode 0x3AF8#16 = .error (.reservedConditionBits 8#4) := by decide

/-- OT4 -/
theorem test_reject_subcode_zero : decode 0x3800#16 = .error (.unassignedSubcode 0#7 0#4) := by decide

/-- OT5 -/
theorem test_reject_opcode_01010 : decode 0x5000#16 = .error (.unassignedOpcode 0b01010#5) := by decide

/-- OT7 -/
theorem test_reject_near_ret : decode 0x38F0#16 = .error (.unassignedSubcode 0b0001111#7 0#4) := by decide

/-- OT8 -/
theorem test_reject_near_nop : decode 0x3CF1#16 = .error (.unassignedSubcode 0b1001111#7 1#4) := by decide

/-- The table's numbering: one word, its bit 0 the least significant. -/
theorem test_decodeTableWord : decodeTableWord 16 0x06A5 = some (.addRM 0x5#4 0x6A#7) := by decide

/-! ## One step -/

/-- RUN mode, RESET high, no skip pending, all ports input, every port pin low. -/
def start : State := { State.reset with resetHeld := false }

/-- `start` with the word at the pc, one step taken. -/
def ran (s : State) (w : Word) : Result := step (placedAtFetch s w)

/-- The step answers a next state with the property. -/
def gives (r : Result) (p : State → Bool) : Bool :=
  match r with
  | .next t => p t
  | .fault _ => false
  | .refused _ => false

/-- The step stops with the fault. -/
def stops (r : Result) (f : Fault) : Bool :=
  match r with
  | .next _ => false
  | .fault g => g == f
  | .refused _ => false

/-- The next state, `start` where there is none. -/
def stateOf (r : Result) : State :=
  match r with
  | .next t => t
  | .fault _ => start
  | .refused _ => start

/-- The flags BCD, CMP, CY, Z. -/
def flagsAre (t : State) (bcd cmp cy z : Bool) : Bool :=
  (t.bcd == bcd) && (t.cmp == cmp) && (t.cy == cy) && (t.z == z)

/-- The state with the flags BCD, CMP, CY, Z. -/
def withFlags (s : State) (bcd cmp cy z : Bool) : State := { s with bcd := bcd, cmp := cmp, cy := cy, z := z }

/-- The state whose environment drives port 0B, bits 2 to 0. -/
def driveB (s : State) (b2 b1 b0 : Drive) : State :=
  { s with env := { s.env with now := { s.env.now with p0b2 := b2, p0b1 := b1, p0b0 := b0 } } }

/-- The state whose environment drives port 0C, bits 3 to 0. -/
def driveC (s : State) (b3 b2 b1 b0 : Drive) : State :=
  { s with env := { s.env with now := { s.env.now with p0c3 := b3, p0c2 := b2, p0c1 := b1, p0c0 := b0 } } }

/-- The state whose environment drives port 0D, bits 3 to 0. -/
def driveD (s : State) (b3 b2 b1 b0 : Drive) : State :=
  { s with env := { s.env with now := { s.env.now with p0d3 := b3, p0d2 := b2, p0d1 := b1, p0d0 := b0 } } }

/-- The state whose environment drives RESET low. -/
def resetLow (s : State) : State := { s with env := { s.env with now := { s.env.now with reset := .low } } }

/-! ### Arithmetic (95_test_vectors.md section 2.1) -/

/-- AR1 -/
theorem test_ADD_rm_carry :
    gives (ran ((start.setReg 2#4 9#4).setReg 5#4 8#4) 0x0052#16)
      (fun t => t.reg 2#4 == 1#4 && flagsAre t false false true false && t.pc == 1#9) = true := by
  decide

/-- V-PSW-1b -/
theorem test_ADD_mi_psw_stored_last :
    gives (ran (withFlags (start) false false true false) 0x87FC#16)
      (fun t => flagsAre t false false false false) = true := by
  decide

/-- AR3 -/
theorem test_ADDC_rm_carry_in :
    gives (ran (withFlags ((start.setReg 0#4 7#4).setReg 1#4 8#4) false false true false) 0x1010#16)
      (fun t => t.reg 0#4 == 0#4 && flagsAre t false false true true) = true := by
  decide

/-- AR9a -/
theorem test_ADDC_rm_outside_decimal :
    gives (ran (withFlags ((start.setReg 0#4 15#4).setReg 1#4 15#4) true false true false) 0x1010#16)
      (fun t => t.reg 0#4 == 9#4 && flagsAre t true false true false) = true := by
  decide

/-- P2, step 9: 0 + 0 + 1 -/
theorem test_ADDC_mi :
    gives (ran (withFlags (start.setReg 4#4 0#4) true false true false) 0x9040#16)
      (fun t => t.reg 4#4 == 1#4 && flagsAre t true false false false) = true := by
  decide

/-- AR8a -/
theorem test_SUB_rm_decimal_borrow :
    gives (ran (withFlags ((start.setReg 0#4 3#4).setReg 1#4 7#4) true false false false) 0x0810#16)
      (fun t => t.reg 0#4 == 6#4 && flagsAre t true false true false) = true := by
  decide

/-- AR4 -/
theorem test_SUB_mi_borrow :
    gives (ran (start.setReg 4#4 3#4) 0x8845#16)
      (fun t => t.reg 4#4 == 14#4 && flagsAre t false false true false) = true := by
  decide

/-- AR6a -/
theorem test_SUB_mi_compare_keeps_z :
    gives (ran (withFlags (start.setReg 1#4 5#4) false true true true) 0x8815#16)
      (fun t => t.reg 1#4 == 5#4 && flagsAre t false true false true) = true := by
  decide

/-- AR5 -/
theorem test_SUBC_rm_borrow_in :
    gives (ran (withFlags ((start.setReg 4#4 5#4).setReg 6#4 4#4) false false true false) 0x1864#16)
      (fun t => t.reg 4#4 == 0#4 && flagsAre t false false false true) = true := by
  decide

/-- AR8b -/
theorem test_SUBC_mi_decimal :
    gives (ran (withFlags (start.setReg 0#4 0#4) true false true false) 0x9800#16)
      (fun t => t.reg 0#4 == 9#4 && flagsAre t true false true false) = true := by
  decide

/-- AR9d -/
theorem test_SUBC_mi_lowest_row :
    gives (ran (withFlags (start.setReg 0#4 0#4) true false true false) 0x980F#16)
      (fun t => t.reg 0#4 == 14#4 && flagsAre t true false true false) = true := by
  decide

/-- AR13 -/
theorem test_ADD_mi_port_reads_pins :
    gives (ran (driveB start .high .high .high) 0x8711#16)
      (fun t => t.latchB == 0#3 && t.outB && flagsAre t false false false false) = true := by
  decide

/-- AR14 -/
theorem test_ADD_absent_address :
    stops (ran (start) 0x0100#16)
      (.unimplementedDataAddress 0x10#7 0#9) = true := by
  decide

/-! ### Logic (section 2.2) -/

/-- LG1 -/
theorem test_OR_rm_stored_with_cmp :
    gives (ran (withFlags ((start.setReg 1#4 5#4).setReg 2#4 3#4) false true true true) 0x3021#16)
      (fun t => t.reg 1#4 == 7#4 && flagsAre t false true true true) = true := by
  decide

/-- LG6 -/
theorem test_OR_mi_bit0_of_psw :
    gives (ran (start) 0xB7F1#16)
      (fun t => flagsAre t false false false false) = true := by
  decide

/-- LG9 -/
theorem test_OR_mi_output_port :
    gives (ran ({ start with outC := true, latchC := 0b1000#4 }) 0xB721#16)
      (fun t => t.latchC == 0b1001#4 && t.outC) = true := by
  decide

/-- LG2 -/
theorem test_AND_rm :
    gives (ran ((start.setReg 1#4 5#4).setReg 2#4 3#4) 0x2021#16)
      (fun t => t.reg 1#4 == 1#4) = true := by
  decide

/-- LG10 -/
theorem test_AND_rm_port_source :
    gives (ran (driveB (start.setReg 0#4 15#4) .high .low .high) 0x2710#16)
      (fun t => t.reg 0#4 == 5#4 && !t.outB) = true := by
  decide

/-- V-PORT-1 -/
theorem test_AND_mi_port_hazard :
    gives (ran (driveB { start with outB := true, latchB := 0b111#3 } .high .low .low) 0xA71B#16)
      (fun t => t.latchB == 0b000#3) = true := by
  decide

/-- LG5 -/
theorem test_AND_mi_clears_cmp :
    gives (ran (withFlags (start) false true true true) 0xA7F7#16)
      (fun t => flagsAre t false false true true) = true := by
  decide

/-- LG3 -/
theorem test_XOR_rm_zero_leaves_z :
    gives (ran (start.setReg 1#4 9#4) 0x2811#16)
      (fun t => t.reg 1#4 == 0#4 && !t.z) = true := by
  decide

/-- LG8 -/
theorem test_XOR_mi_port :
    gives (ran (driveD start .high .low .high .low) 0xAF3F#16)
      (fun t => t.latchD == 0b0101#4 && t.outD) = true := by
  decide

/-! ### Bit tests and comparisons (sections 2.3 and 2.4) -/

/-- JD1 -/
theorem test_SKT_empty_mask :
    gives (ran (withFlags (start.setReg 1#4 0#4) false true false false) 0xF010#16)
      (fun t => t.skip && !t.cmp) = true := by
  decide

/-- JD3 -/
theorem test_SKT_reads_cmp_first :
    gives (ran (withFlags (start) false true false false) 0xF7F8#16)
      (fun t => t.skip && !t.cmp) = true := by
  decide

/-- JD4 -/
theorem test_SKF_reads_cmp_first :
    gives (ran (withFlags (start) false true false false) 0xFFF8#16)
      (fun t => !t.skip && !t.cmp) = true := by
  decide

/-- JD9 -/
theorem test_SKF_one_bit_true : gives (ran (start.setReg 1#4 9#4) 0xF81A#16) (fun t => !t.skip) = true := by decide

/-- CP3 -/
theorem test_SKE_psw :
    gives (ran (withFlags (start) false false true true) 0x4FF6#16)
      (fun t => t.skip && flagsAre t false false true true) = true := by
  decide

/-- V-SRC-8, second case -/
theorem test_SKE_not_equal : gives (ran (start.setReg 1#4 10#4) 0x4818#16) (fun t => !t.skip) = true := by decide

/-- CP4 -/
theorem test_SKNE_equal :
    gives (ran (withFlags (start) true false false false) 0x5FE1#16)
      (fun t => !t.skip) = true := by
  decide

/-- V-SRC-9, first case -/
theorem test_SKNE_differs : gives (ran (start.setReg 1#4 10#4) 0x5818#16) (fun t => t.skip) = true := by decide

/-- CP6 -/
theorem test_SKGE_port :
    gives (ran (driveC start .high .low .low .low) 0xCF28#16)
      (fun t => t.skip && !t.outC) = true := by
  decide

/-- V-SRC-10, third case -/
theorem test_SKGE_less : gives (ran (start.setReg 1#4 8#4) 0xC819#16) (fun t => !t.skip) = true := by decide

/-- CP5 -/
theorem test_SKLT_binary_in_decimal_mode :
    gives (ran (withFlags (start.setReg 1#4 14#4) true false false false) 0xD81F#16)
      (fun t => t.skip) = true := by
  decide

/-- V-SRC-11, second case -/
theorem test_SKLT_equal : gives (ran (start.setReg 1#4 8#4) 0xD818#16) (fun t => !t.skip) = true := by decide

/-! ### Rotate and transfer (section 2.5) -/

/-- RT2 -/
theorem test_RORC_stored_with_cmp :
    gives (ran (withFlags (start.setReg 15#4 6#4) true true true false) 0x387F#16)
      (fun t => t.reg 15#4 == 11#4 && flagsAre t true true false false) = true := by
  decide

/-- V-SRC-12 -/
theorem test_RORC_source_example :
    gives (ran (withFlags (start.setReg 1#4 9#4) false false true false) 0x3871#16)
      (fun t => t.reg 1#4 == 12#4 && flagsAre t false false true false) = true := by
  decide

/-- TR5 -/
theorem test_LD_push_pull_reads_latch :
    gives (ran (driveD { start with outD := true, latchD := 0b1001#4 } .low .high .high .low) 0x4732#16)
      (fun t => t.reg 2#4 == 9#4) = true := by
  decide

/-- TR6 -/
theorem test_ST_psw_drops_bit0 :
    gives (ran (start.setReg 4#4 15#4) 0xC7F4#16)
      (fun t => flagsAre t false true true true) = true := by
  decide

/-- TR7 -/
theorem test_ST_port :
    gives (ran (start.setReg 4#4 5#4) 0xC724#16)
      (fun t => t.latchC == 5#4 && t.outC) = true := by
  decide

/-- TR9 -/
theorem test_MOV_bcd : gives (ran (start) 0xEFEF#16) (fun t => flagsAre t true false false false) = true := by decide

/-- TR10 -/
theorem test_MOV_stored_with_cmp :
    gives (ran (withFlags (start) false true false false) 0xE8FA#16)
      (fun t => t.reg 15#4 == 10#4 && t.cmp) = true := by
  decide

/-- TR14, second step -/
theorem test_LD_open_drain_reads_wire :
    gives (ran (driveB { start with outB := true, latchB := 0b110#3 } .low .high .high) 0x4710#16)
      (fun t => t.reg 0#4 == 2#4) = true := by
  decide

/-! ### Branch and subroutine (section 2.6) -/

/-- BR1 -/
theorem test_BR_highest : gives (ran (start) 0x61FF#16) (fun t => t.pc == 0x1FF#9) = true := by decide

/-- BR4 -/
theorem test_BR_reserved : stops (ran (start) 0x6400#16) (.illegalInstruction 0x6400#16 0#9) = true := by decide

/-- BR5 -/
theorem test_CALL_at_the_last_address :
    gives (ran (start.jump 0x1FF#9) 0xE100#16)
      (fun t => t.pc == 0x100#9 && t.asr == 0#9 && t.depth) = true := by
  decide

/-- BR6 -/
theorem test_CALL_second_level :
    stops (ran ({ start with pc := 0x010#9, depth := true, asr := 5#9 }) 0xE100#16)
      (.stackOverflow 0x010#9) = true := by
  decide

/-- BR8 -/
theorem test_RET :
    gives (ran ({ start with pc := 0x100#9, depth := true, asr := 0x011#9 }) 0x38E0#16)
      (fun t => t.pc == 0x011#9 && !t.depth && t.asr == 0x011#9) = true := by
  decide

/-- BR7 -/
theorem test_RET_underflow : stops (ran (start.jump 0x100#9) 0x38E0#16) (.stackUnderflow 0x100#9) = true := by decide

/-- BR9, first step -/
theorem test_RETSK :
    gives (ran ({ start with pc := 0x100#9, depth := true, asr := 0x011#9 }) 0x39E0#16)
      (fun t => t.pc == 0x011#9 && !t.depth && t.skip) = true := by
  decide

/-- BR2 -/
theorem test_NOP_wraps : gives (ran (start.jump 0x1FF#9) 0x3CF0#16) (fun t => t.pc == 0#9) = true := by decide

/-! ### HALT, STOP and the events (section 2.7) -/

/-- OT10 -/
theorem test_HALT_1_high_is_nop :
    gives (ran (driveB start .low .low .high) 0x3BF1#16)
      (fun t => t.pc == 1#9 && t.mode == .run) = true := by
  decide

/-- OT11 -/
theorem test_HALT_1_own_latch_low :
    gives (ran (driveB { start with outB := true, latchB := 0b110#3 } .high .high .high) 0x3BF1#16)
      (fun t => t.mode == .halt .p0b0) = true := by
  decide

/-- OT14 -/
theorem test_STOP_0 :
    gives (ran ({ withFlags (start.setReg 3#4 9#4) true false true false with
      pc := 9#9, outC := true, latchC := 3#4, depth := true, asr := 4#9 }) 0x3AF0#16)
      (fun t => t.pc == 0#9 && flagsAre t false false false false && !t.outC && t.latchC == 3#4 &&
        t.reg 3#4 == 9#4 && !t.depth && t.mode == .stop .resetOnly) = true := by
  decide

/-- OT12 -/
theorem test_STOP_1_low :
    gives (ran (driveB start .high .low .high) 0x3AF1#16)
      (fun t => t.pc == 1#9 && t.mode == .stop .p0b1) = true := by
  decide

/-- RS5: RAM is held where the reset comes in standby. -/
theorem test_reset_in_halt :
    gives (step (resetLow { start.setReg 0#4 5#4 with mode := .halt .p0b0, outC := true, pc := 7#9 }))
      (fun t => t.reg 0#4 == 5#4 && t.pc == 0#9 && !t.outC && t.mode == .run && t.resetHeld) = true := by
  decide

/-- RS2: nothing changes while RESET stays low. -/
theorem test_reset_held :
    gives (step (resetLow { start with resetHeld := true })) (fun t => t.resetHeld && t.pc == 0#9) = true := by
  decide

/-- RS6: P0B0 does not release STOP. -/
theorem test_stop_ignores_p0b0 :
    gives (step (driveB { start with mode := .stop .p0b1 } .low .low .high))
      (fun t => t.mode == .stop .p0b1) = true := by
  decide

/-- RS8: RESET low comes before the release pin. -/
theorem test_reset_before_release :
    gives (step (resetLow (driveB { start with mode := .halt .p0b0, pc := 7#9 } .low .low .high)))
      (fun t => t.pc == 0#9 && t.resetHeld) = true := by
  decide

/-- JD10, second step: an unassigned word in a skipped slot is a NOP. -/
theorem test_skipped_unassigned_word :
    gives (cpuStep ({ start with skip := true, pc := 1#9 }.setRom (Memory.writeWord [] 1#9 0x5000#16)))
      (fun t => t.pc == 2#9 && !t.skip) = true := by
  decide

/-- The source's figure: 2 microseconds at 8 MHz (70_reset_and_hazards.md R342). -/
theorem test_cycle_time_at_8_MHz : cycleNanoseconds { resetChip with fX := 8000000 } = 2000 := by decide

/-- 46_assembler.md R258, worked: SET2 CMP, Z and INITFLG POB3, NOT POB2, POB1, POB0. -/
theorem test_macros :
    expandMacro (.setN [⟨0x7F#7, 3⟩, ⟨0x7F#7, 1⟩]) = some (.orMI 0x7F#7 0b1010#4) ∧
    expandMacro (.initflg [(false, ⟨0x71#7, 3⟩), (true, ⟨0x71#7, 2⟩), (false, ⟨0x71#7, 1⟩), (false, ⟨0x71#7, 0⟩)]) =
      some (.mov 0x71#7 0b1011#4) := by
  decide
/-! ## Witnesses: for each statement with hypotheses, a state and operands that meet them together

Each is named for its statement. Where the clauses of a statement have their own ranges, each clause has a witness at a
boundary of its range. -/

/-- A machine with the policy for absent addresses. -/
def withPolicy (p : AbsentPolicy) : State := { start with chip := { resetChip with absent := p } }

/-- The environment presents `start`'s levels twice more. -/
def twice : State := { start with env := { start.env with later := [resetExt, resetExt] } }

/-- All pins and RESET low, now and at one evaluation to come. -/
def heldLow : State :=
  { start with
    resetHeld := true
    env := { now := { resetExt with reset := .low }, later := [{ resetExt with reset := .low }], tick := 0 } }

theorem witness_DecodeInvertsEncode :
    (Instr.call 511#11).wellFormed = true ∧ (Instr.stop 1#4).wellFormed = true ∧ Instr.ret.wellFormed = true := by
  decide

theorem witness_EncodeInvertsDecode : decode 0x61FF#16 = .ok (.br 0x1FF#11) ∧ decode 0x3BF1#16 = .ok (.halt 1#4) := by
  decide

theorem witness_DecodeAgreesWithOpcodeTable :
    decode 0x38E0#16 = .ok .ret ∧ opcodeRow .ret ∈ opcodeTable ∧ (opcodeRow .ret).covers 0x38E0#16 = true := by
  decide

theorem witness_StepRunsDecodedInstruction :
    let s := placedAtFetch start 0x8031#16
    resetLevel s = true ∧ s.mode = .run ∧ s.skip = false ∧ fetchWord s = some 0x8031#16 ∧
      decode 0x8031#16 = .ok (.addMI 3#7 1#4) ∧
      gives (exec (.addMI 3#7 1#4) { s with resetHeld := false }) (fun t => t.pc == 1#9) = true := by
  decide

theorem witness_StepRunsDecodedInstruction_fault :
    let s := placedAtFetch start 0x38E0#16
    resetLevel s = true ∧ s.mode = .run ∧ s.skip = false ∧ fetchWord s = some 0x38E0#16 ∧
      decode 0x38E0#16 = .ok .ret ∧ stops (exec .ret { s with resetHeld := false }) (.stackUnderflow 0#9) = true := by
  decide

theorem witness_PendingSkipMakesSlotNop :
    resetLevel (start.setSkip true) = true ∧ (start.setSkip true).mode = .run ∧ (start.setSkip true).skip = true := by
  decide

theorem witness_UnassignedWordStopsTheStep (w : Word) :
    resetLevel (placedAtFetch start w) = true ∧ (placedAtFetch start w).mode = .run ∧
      (placedAtFetch start w).skip = false ∧ fetchWord (placedAtFetch start w) = some w :=
  ⟨rfl, rfl, rfl, fetchWord_placedAtFetch start w⟩

/-- A word of each of the three kinds, at the edges of the kinds: near misses of NOP and RET, the lowest and the highest
reserved address. -/
theorem witness_UnassignedWordStopsTheStep_words :
    (0xD7FF#16).extractLsb' 11 5 ∈ [0b01010#5, 0b01101#5, 0b01110#5, 0b01111#5, 0b10111#5, 0b11010#5] ∧
    ([0x3800#16, 0x38F0#16, 0x3CF1#16].all fun w =>
      w.extractLsb' 11 5 == 0b00111#5 && w.extractLsb' 4 12 != 0x387#12 &&
        !([0x38E0#16, 0x39E0#16, 0x3AF0#16, 0x3AF1#16, 0x3BF0#16, 0x3BF1#16, 0x3CF0#16].contains w)) = true ∧
    ([0x6200#16, 0x67FF#16, 0xE200#16, 0xE7FF#16].all fun w =>
      (w.extractLsb' 11 5 == 0b01100#5 || w.extractLsb' 11 5 == 0b11100#5) && w.extractLsb' 9 2 != 0#2) = true := by
  decide

theorem witness_EveryStepAdvancesEnvironment :
    gives (step (placedAtFetch start 0x3CF0#16)) (fun t => t.env.tick == 1) = true ∧
      (placedAtFetch start 0x3CF0#16).env.later = [] ∧
      gives (step (placedAtFetch twice 0x3CF0#16)) (fun t => t.env.later == [resetExt]) = true ∧
      (placedAtFetch twice 0x3CF0#16).env.later = resetExt :: [resetExt] := by
  decide

theorem witness_DataReadFollowsMap :
    (∀ m ∈ [0x10#7, 0x70#7, 0x74#7, 0x7D#7], place m = .absent) ∧ (withPolicy .fault).chip.absent = .fault ∧
      (withPolicy .readZeroWriteVoid).chip.absent = .readZeroWriteVoid ∧
      (withPolicy .anyValueWriteVoid).chip.absent = .anyValueWriteVoid := by
  decide

theorem witness_notImplemented : ∀ m ∈ [0x10#7, 0x70#7, 0x74#7, 0x7D#7], ¬ Implemented m := by
  unfold Implemented
  decide

theorem witness_implemented : ∀ m ∈ [0x00#7, 0x0F#7, 0x71#7, 0x72#7, 0x73#7, 0x7E#7, 0x7F#7], Implemented m := by
  unfold Implemented
  decide

/-- DataWriteFollowsMap, AbsentDataAddressStops, StoreRegister, MoveImmediate: the policies beside
`witness_implemented` and `witness_notImplemented`. -/
theorem witness_DataWriteFollowsMap :
    start.chip.absent = .fault ∧ (withPolicy .readZeroWriteVoid).chip.absent ≠ .fault ∧
      (withPolicy .anyValueWriteVoid).chip.absent ≠ .fault := by
  decide

theorem witness_ReadAfterWrite :
    memWrite start 0x00#7 5#4 = .ok (start.setReg 0#4 5#4) ∧ memWrite start 0x0F#7 5#4 = .ok (start.setReg 15#4 5#4) ∧
      memWrite start 0x71#7 5#4 = .ok (start.writePort .p0b 5#4) ∧
      memWrite start 0x72#7 5#4 = .ok (start.writePort .p0c 5#4) ∧
      memWrite start 0x73#7 5#4 = .ok (start.writePort .p0d 5#4) ∧
      memWrite start 0x7E#7 15#4 = .ok (start.setBcdNibble 15#4) ∧
      memWrite start 0x7F#7 15#4 = .ok (start.setPsw 15#4) := by
  decide

theorem witness_PinDriveAndLevel :
    outMode start (portOf .p0b2) = false ∧ outMode { start with outB := true } .p0b = true ∧
      latchBit { start with outB := true } .p0b2 = false ∧
      latchBit { start with outB := true, latchB := 4#3 } .p0b2 = true ∧
      portOf .p0d3 ≠ .p0b ∧ outMode { start with outD := true } (portOf .p0d3) = true ∧
      extDrive start.env.now .p0b0 = .low ∧ extDrive (driveB start .high .high .high).env.now .p0b0 = .high ∧
      extDrive (driveB start .hiZ .hiZ .hiZ).env.now .p0b0 = .hiZ ∧
      pullUp { p0b0 := true, p0b1 := false, p0b2 := false, reset := false } .p0b0 = true := by
  decide

/-- The three clauses about the RESET pin. -/
theorem witness_PinDriveAndLevel_reset :
    let floating := { start with
      env := { now := { resetExt with reset := .hiZ }, later := [], tick := 0 }
      chip := { resetChip with options := { p0b0 := false, p0b1 := false, p0b2 := false, reset := true } } }
    (resetLow start).env.now.reset = .low ∧ start.env.now.reset = .high ∧ floating.env.now.reset = .hiZ ∧
      floating.chip.options.reset = true := by
  decide

/-- Operands that can be read, with CMP = 0 (ArithmeticRegisterForms, ArithmeticMemoryForms, LogicalRegisterForms,
LogicalMemoryForms, BitTestsClearCmpAndSkip, ComparisonsSkip, LoadRegister). -/
theorem witness_ArithmeticRegisterForms :
    start.cmp = false ∧ memRead start 0x0F#7 = .ok 0#4 ∧ memRead start 0x71#7 = .ok 0#4 ∧
      memRead (withFlags start true false true true) 0x7F#7 = .ok 0b0110#4 ∧
      (withFlags start true false true true).cmp = false := by
  decide

theorem witness_ArithmeticMemoryForms :
    start.cmp = false ∧ memRead start 0x00#7 = .ok 0#4 ∧
      memRead (withFlags start true false false false) 0x7E#7 = .ok 1#4 ∧
      (withPolicy .readZeroWriteVoid).cmp = false ∧ memRead (withPolicy .readZeroWriteVoid) 0x10#7 = .ok 0#4 := by
  decide

theorem witness_CompareModeStoresNothing :
    (withFlags start false true false true).cmp = true ∧
      memRead (withFlags start false true false true) 0x0F#7 = .ok 0#4 := by
  decide

theorem witness_ArithmeticOnPswStoresTheResult : (withFlags start true false true true).cmp = false := by decide

theorem witness_AddcToItselfRotatesLeft : start.bcd = false ∧ start.cmp = false := by decide

theorem witness_LogicalRegisterForms :
    memRead start 0x72#7 = .ok 0#4 ∧ memRead start 0x10#7 = .error (.unimplementedDataAddress 0x10#7 0#9) := by
  decide

theorem witness_LogicalMemoryForms :
    memRead start 0x73#7 = .ok 0#4 ∧ memRead start 0x74#7 = .error (.unimplementedDataAddress 0x74#7 0#9) := by
  decide

theorem witness_BitTestsClearCmpAndSkip : memRead (withFlags start false true false false) 0x7F#7 = .ok 8#4 := by decide

theorem witness_ComparisonsSkip :
    memRead start 0x0F#7 = .ok 0#4 ∧ memRead start 0x70#7 = .error (.unimplementedDataAddress 0x70#7 0#9) := by
  decide

theorem witness_FiveRorcRestoreRegisterAndCarry :
    let next s := stateOf (exec (.rorc 1#4) s)
    let s := start.setReg 1#4 9#4
    exec (.rorc 1#4) s = .next (next s) ∧ exec (.rorc 1#4) (next s) = .next (next (next s)) ∧
      exec (.rorc 1#4) (next (next s)) = .next (next (next (next s))) ∧
      exec (.rorc 1#4) (next (next (next s))) = .next (next (next (next (next s)))) ∧
      exec (.rorc 1#4) (next (next (next (next s)))) = .next (next (next (next (next (next s))))) :=
  ⟨rfl, rfl, rfl, rfl, rfl⟩

theorem witness_LoadRegister :
    memRead start 0x7F#7 = .ok 0#4 ∧ memRead start 0x7D#7 = .error (.unimplementedDataAddress 0x7D#7 0#9) := by
  decide

theorem witness_StoreRegister :
    memWrite start 0x70#7 1#4 = .error (.unimplementedDataAddress 0x70#7 0#9) ∧ place 0x7F#7 ≠ .absent := by
  decide

theorem witness_MoveImmediate :
    memWrite start 0x10#7 1#4 = .error (.unimplementedDataAddress 0x10#7 0#9) ∧ place 0x0F#7 ≠ .absent := by
  decide

theorem witness_BranchLoadsPc : (511#11).toNat < 512 ∧ 512 ≤ (512#11).toNat := by decide

theorem witness_CallSavesReturnAddress :
    (511#11).toNat < 512 ∧ start.depth = false ∧ { start with depth := true }.depth = true ∧ 512 ≤ (512#11).toNat := by
  decide

theorem witness_ReturnsLoadPcFromAsr : { start with depth := true }.depth = true ∧ start.depth = false := by decide

theorem witness_CallThenReturnResumesAfterTheCall :
    let t := stateOf (exec (.call 511#11) (start.jump 0x1FE#9))
    let u := t.jump 0x1A0#9
    exec (.call 511#11) (start.jump 0x1FE#9) = .next t ∧ u.asr = t.asr ∧ u.depth = t.depth :=
  ⟨rfl, rfl, rfl⟩

/-- An instruction that answers a next state (OnlyCallsAndReturnsTouchTheStack, OnlyDestinationsChange,
FlagsChangeOnlyWhereNamed). -/
theorem witness_OnlyCallsAndReturnsTouchTheStack :
    exec (.call 0#11) start = .next (stateOf (exec (.call 0#11) start)) ∧
      exec (.stop 0#4) start = .next (stateOf (exec (.stop 0#4) start)) :=
  ⟨rfl, rfl⟩

theorem witness_OnlyDestinationsChange :
    exec (.mov 0x71#7 5#4) start = .next (start.writePort .p0b 5#4).nextPc ∧
      exec (.orMI 0x0F#7 5#4) start = .next (start.setReg 15#4 5#4).nextPc :=
  ⟨rfl, rfl⟩

theorem witness_FlagsChangeOnlyWhereNamed :
    exec (.mov 0x7E#7 1#4) start = .next (start.setBcdNibble 1#4).nextPc ∧
      exec (.mov 0x7F#7 15#4) start = .next (start.setPsw 15#4).nextPc ∧ IsStopZero (.stop 0#4) ∧
      exec (.stop 0#4) start = .next (start.initialise.setMode (.stop .resetOnly)) :=
  ⟨rfl, rfl, rfl, rfl⟩

theorem witness_HaltEntersHaltMode :
    pinLevel start .p0b0 = false ∧ pinLevel (driveB start .low .low .high) .p0b0 = true ∧ 2 ≤ (2#4 : Nibble).toNat := by
  decide

theorem witness_StopEntersStopMode :
    pinLevel start .p0b1 = false ∧ pinLevel (driveB start .low .high .low) .p0b1 = true ∧ 2 ≤ (2#4 : Nibble).toNat := by
  decide

theorem witness_StandbyReleasedOnlyByItsPin :
    (∀ m ∈ [Mode.halt .p0b0, .halt .resetOnly, .stop .p0b1, .stop .resetOnly],
      resetLevel (start.setMode m) = true ∧ (start.setMode m).mode = m ∧ pinLevel (start.setMode m) .p0b0 = false ∧
        pinLevel (start.setMode m) .p0b1 = false ∧
        pinLevel (driveB (start.setMode m) .low .high .high) .p0b0 = true ∧
        pinLevel (driveB (start.setMode m) .low .high .high) .p0b1 = true) ∧
      WaitsForReset (start.setMode (.halt .resetOnly)) ∧ WaitsForReset (start.setMode (.stop .resetOnly)) :=
  ⟨by decide, .inl rfl, .inr rfl⟩

theorem witness_StandbyEnteredByInstructionAndHeld :
    gives (step (placedAtFetch start 0x3BF0#16)) (fun t => t.mode != .run) = true ∧
      (placedAtFetch start 0x3BF0#16).mode = .run ∧
      gives (step (start.setMode (.halt .p0b0))) (fun t => t.pc == 0#9) = true ∧
      resetLevel (start.setMode (.halt .p0b0)) = true := by
  decide

theorem witness_ResetOnlyStandbyLasts : Finished (start.setMode (.halt .resetOnly)) :=
  ⟨.inl rfl, rfl, by decide⟩

theorem witness_ResetClearsAndHoldsRamInStandby :
    resetLevel (resetLow start) = false ∧ (resetLow start).resetHeld = false ∧
      (resetLow (start.setMode (.stop .p0b1))).mode ≠ .run ∧
      resetLevel (resetLow (start.setMode (.stop .p0b1))) = false := by
  decide

theorem witness_ResetStateIsHeldWhileLow :
    heldLow.resetHeld = true ∧ heldLow.env.now.reset = .low ∧ ∀ x ∈ heldLow.env.later, x.reset = .low := by
  decide

theorem witness_EveryStepKeepsInvariant :
    Inv (placedAtFetch start 0x3AF0#16) ∧
      step (placedAtFetch start 0x3AF0#16) = .next (stateOf (step (placedAtFetch start 0x3AF0#16))) :=
  ⟨⟨by decide, by decide, by unfold Cleared; decide, by unfold Cleared; decide⟩, rfl⟩

theorem witness_ProgramMemoryNeverChanges :
    RunsTo 1 (placedAtFetch start 0x3CF0#16) (stateOf (step (placedAtFetch start 0x3CF0#16))) := rfl

/-- Two states that differ in latches of input ports and in ASR. -/
theorem witness_InputLatchesAndFreeStackAreUnobservable :
    Alike start { start with latchB := 7#3, latchC := 9#4, latchD := 6#4, asr := 0x123#9 } := by
  unfold Alike FlagsKept
  decide

theorem witness_AbsentDataAddressStops :
    dataOperand (.st 0x10#7 0#4) = some 0x10#7 ∧ dataOperand (.addRM 0#4 0x7D#7) = some 0x7D#7 ∧
      start.chip.absent = .fault := by
  decide

theorem witness_InstructionsStopOnlyForNamedReasons :
    exec (.ld 0#4 0x10#7) start = .fault (.unimplementedDataAddress 0x10#7 0#9) ∧
      exec (.halt 2#4) start = .fault (.illegalInstruction 0x3BF2#16 0#9) ∧
      exec (.call 0#11) { start with depth := true } = .fault (.stackOverflow 0#9) ∧
      exec .ret start = .fault (.stackUnderflow 0#9) ∧ exec .retsk start = .fault (.stackUnderflow 0#9) :=
  ⟨rfl, rfl, rfl, rfl, rfl⟩

/-- One flag of 0FH, the four of 00H, BCD at 7EH, and CMP and Z at 7FH. -/
theorem witness_MacrosActOnExactlyTheirFlags :
    let one : List FlagRef := [⟨0x0F#7, 0⟩]
    let four : List FlagRef := [⟨0x00#7, 0⟩, ⟨0x00#7, 1⟩, ⟨0x00#7, 2⟩, ⟨0x00#7, 3⟩]
    let bcd : List FlagRef := [⟨0x7E#7, 0⟩]
    let psw : List FlagRef := [⟨0x7F#7, 3⟩, ⟨0x7F#7, 1⟩]
    (one ≠ [] ∧ one.length ≤ 4 ∧ (∀ f ∈ one, f.addr = 0x0F#7 ∧ StoredFlag f) ∧ memRead start 0x0F#7 = .ok 0#4) ∧
    (four ≠ [] ∧ four.length ≤ 4 ∧ (∀ f ∈ four, f.addr = 0x00#7 ∧ StoredFlag f) ∧ memRead start 0x00#7 = .ok 0#4) ∧
    (bcd ≠ [] ∧ bcd.length ≤ 4 ∧ (∀ f ∈ bcd, f.addr = 0x7E#7 ∧ StoredFlag f) ∧ memRead start 0x7E#7 = .ok 0#4) ∧
    (psw ≠ [] ∧ psw.length ≤ 4 ∧ (∀ f ∈ psw, f.addr = 0x7F#7 ∧ StoredFlag f) ∧ memRead start 0x7F#7 = .ok 0#4) := by
  unfold StoredFlag
  decide

/-- The block of 46_assembler.md R258: INITFLG POB3, NOT POB2, POB1, POB0. -/
theorem witness_InitflgStoresTheWholeNibble :
    let flags : List (Bool × FlagRef) :=
      [(false, ⟨0x71#7, 3⟩), (true, ⟨0x71#7, 2⟩), (false, ⟨0x71#7, 1⟩), (false, ⟨0x71#7, 0⟩)]
    flags.length = 4 ∧ (∀ x ∈ flags, x.2.addr = 0x71#7) ∧ (∀ k : Fin 4, ∃ x ∈ flags, x.2.bit = k) ∧
      Implemented 0x71#7 := by
  unfold Implemented
  decide

/-- Neither half of the word is there; the high half alone is missing; the low half alone is missing. -/
theorem witness_UndefinedLocationStopsTheStep :
    resetLevel start = true ∧ start.mode = .run ∧ start.skip = false ∧
      Memory.read start.chip.rom (2 * start.pc.toNat) = none ∧
      Memory.read (start.setRom [(0, 0xF0#8)]).chip.rom 1 = none ∧
      Memory.read (start.setRom [(1, 0x3C#8)]).chip.rom 0 = none := by
  decide

end Sys2Proof.Tests
end

section
/-! The data-memory write in the vocabulary of the statements: which addresses are absent, what `Stored` says after
`memWrite`, and that moving the pc on keeps the frames (20_memory.md R64, R65, R67). -/

namespace Sys2Proof.Proofs

open Sys2Proof Sys2Proof.Machine Sys2Proof.Claims

/-- The map has nothing exactly at the addresses the source does not describe (20_memory.md R64). -/
theorem place_eq_absent (m : DataAddr) : place m = .absent ↔ ¬ Implemented m := by
  revert m
  unfold Implemented
  decide

@[simp] theorem memWrite_portB (s : State) (v : Nibble) : memWrite s 0x71#7 v = .ok (s.writePort .p0b v) := by
  simp [memWrite]

@[simp] theorem memWrite_portC (s : State) (v : Nibble) : memWrite s 0x72#7 v = .ok (s.writePort .p0c v) := by
  simp [memWrite]

@[simp] theorem memWrite_portD (s : State) (v : Nibble) : memWrite s 0x73#7 v = .ok (s.writePort .p0d v) := by
  simp [memWrite]

@[simp] theorem memWrite_bcdNibble (s : State) (v : Nibble) : memWrite s 0x7E#7 v = .ok (s.setBcdNibble v) := by
  simp [memWrite]

@[simp] theorem memWrite_psw (s : State) (v : Nibble) : memWrite s 0x7F#7 v = .ok (s.setPsw v) := by
  simp [memWrite]

/-- A write that goes through at an absent address is void. -/
theorem memWrite_ok_of_not_implemented {s t : State} {m : DataAddr} {v : Nibble} (hm : ¬ Implemented m)
    (h : memWrite s m v = .ok t) : t = s := by
  have hp : place m = .absent := (place_eq_absent m).mpr hm
  simp only [memWrite, hp] at h
  exact writeAbsent_ok h

theorem regWritten_setReg (s : State) (r : RegNum) (v : Nibble) : RegWritten s (s.setReg r v) r v :=
  ⟨State.reg_setReg_same s r v, fun _ hk => State.reg_setReg_other s v hk⟩

/-- A write stores the nibble at its address and keeps the rest of the data memory, address by address of the map. -/
theorem memWrite_stored {s t : State} {m : DataAddr} {v : Nibble} (h : memWrite s m v = .ok t) : Stored s t m v := by
  refine ⟨fun r hm => ?ram, fun hm => ?portB, fun hm => ?portC, fun hm => ?portD, fun hm => ?bcd, fun hm => ?psw,
    fun hm => ?absent⟩
  case absent =>
    obtain rfl := memWrite_ok_of_not_implemented hm h
    simp [RegsKept, FlagsKept, PortsKept]
  all_goals
    subst hm
    simp only [memWrite_regAddr, memWrite_portB, memWrite_portC, memWrite_portD, memWrite_bcdNibble, memWrite_psw,
      Except.ok.injEq] at h
    subst h
  case ram => simp [regWritten_setReg, FlagsKept, PortsKept]
  all_goals simp [RegsKept, FlagsKept, PortsKept]

theorem memWrite_controlKept {s t : State} {m : DataAddr} {v : Nibble} (h : memWrite s m v = .ok t) :
    ControlKept s t := by
  obtain ⟨-, hasr, hdepth, -, hmode, hheld, hchip, henv⟩ := memWrite_frame h
  exact ⟨hasr, hdepth, hmode, hheld, hchip, henv⟩

/-- After a write, the move to the next instruction is the only change of pc and skip. -/
theorem memWrite_advanced {s t : State} {m : DataAddr} {v : Nibble} (h : memWrite s m v = .ok t) :
    Advanced s t.nextPc := by
  obtain ⟨hpc, -, -, hskip, -⟩ := memWrite_frame h
  exact ⟨by rw [State.nextPc_pc, hpc], hskip⟩

@[simp] theorem stored_nextPc (s t : State) (m : DataAddr) (v : Nibble) :
    Stored s t.nextPc m v ↔ Stored s t m v := Iff.rfl

@[simp] theorem controlKept_nextPc (s t : State) : ControlKept s t.nextPc ↔ ControlKept s t := Iff.rfl

/-- A store to an address that can be read goes through and is framed (20_memory.md R67). -/
theorem storeAt_of_memRead {s : State} {m : DataAddr} {a : Nibble} (h : memRead s m = .ok a) (v : Nibble) :
    ∃ t, storeAt s m v = .next t ∧ Stored s t m v ∧ ControlKept s t ∧ Advanced s t := by
  obtain ⟨u, hu⟩ := memWrite_of_memRead h s rfl v
  exact ⟨u.nextPc, storeAt_of_memWrite hu, (stored_nextPc ..).mpr (memWrite_stored hu),
    (controlKept_nextPc ..).mpr (memWrite_controlKept hu), memWrite_advanced hu⟩

/-- An instruction that passes on the fault of its read stops exactly as the read does. -/
theorem stopsWithRead_of_error {i : Instr} {m : DataAddr}
    (h : ∀ (s : State) (f : Fault), memRead s m = .error f → exec i s = .fault f) : StopsWithRead i m := by
  intro s f hf
  obtain ⟨-, -, hfault⟩ := memRead_error hf
  exact ⟨h s f hf, hfault⟩

theorem operandsRM_of_memRead_error {s : State} {m : DataAddr} {f : Fault} (h : memRead s m = .error f)
    (r : RegNum) : operandsRM s r m = .error f := by simp [operandsRM, h]

theorem operandsMI_of_memRead_error {s : State} {m : DataAddr} {f : Fault} (h : memRead s m = .error f)
    (n : Nibble) : operandsMI s m n = .error f := by simp [operandsMI, h]

end Sys2Proof.Proofs
end

section
/-! OR, AND and XOR (41_logical.md R170 to R176): the three mnemonics as one operation on nibbles, the two execution
shapes, and the statements O18 and O19. -/

namespace Sys2Proof.Proofs

open Sys2Proof Sys2Proof.Machine Sys2Proof.Claims

/-- The operation on nibbles that the mnemonic names (41_logical.md R170). -/
def logicFn (op : LogicOp) : Nibble → Nibble → Nibble :=
  match op with
  | .or => (· ||| ·)
  | .and => (· &&& ·)
  | .xor => (· ^^^ ·)

/-- The operation follows the truth table on every bit (41_logical.md R170, Table 5-5). -/
theorem logicResult_logicFn (op : LogicOp) (a b : Nibble) : LogicResult op a b (logicFn op a b) := by
  intro k _
  cases op with
  | or => exact BitVec.getLsbD_or
  | and => exact BitVec.getLsbD_and
  | xor => simp [logicFn, LogicOp.bit]

theorem exec_logic_reg (op : LogicOp) (r : RegNum) (m : DataAddr) (s : State) :
    exec (op.reg r m) s = logicRM (logicFn op) r m s := by cases op <;> rfl

theorem exec_logic_imm (op : LogicOp) (m : DataAddr) (n : Nibble) (s : State) :
    exec (op.imm m n) s = logicMI (logicFn op) m n s := by cases op <;> rfl

/-! ### The words -/

theorem decode_logic_reg (op : LogicOp) (r : RegNum) (m : DataAddr) :
    decode (packWord op.regCode m r) = .ok (op.reg r m) := by
  cases op <;> simp [decode, LogicOp.regCode, LogicOp.reg]

theorem decode_logic_imm (op : LogicOp) (m : DataAddr) (n : Nibble) :
    decode (packWord op.immCode m n) = .ok (op.imm m n) := by
  cases op <;> simp [decode, LogicOp.immCode, LogicOp.imm]

/-! ### The execution shapes -/

theorem logicRM_of_memRead {s : State} {m : DataAddr} {b : Nibble} (h : memRead s m = .ok b)
    (f : Nibble → Nibble → Nibble) (r : RegNum) :
    logicRM f r m s = .next (s.setReg r (f (s.reg r) b)).nextPc := by
  rw [logicRM, operandsRM_of_memRead h, onOk_ok]

theorem logicMI_of_memRead {s : State} {m : DataAddr} {a : Nibble} (h : memRead s m = .ok a)
    (f : Nibble → Nibble → Nibble) (n : Nibble) : logicMI f m n s = storeAt s m (f a n) := by
  rw [logicMI, operandsMI_of_memRead h, onOk_ok]

theorem logic_reg_stopsWithRead (op : LogicOp) (r : RegNum) (m : DataAddr) : StopsWithRead (op.reg r m) m :=
  stopsWithRead_of_error fun s f hf => by
    rw [exec_logic_reg, logicRM, operandsRM_of_memRead_error hf, onOk_error]

theorem logic_imm_stopsWithRead (op : LogicOp) (m : DataAddr) (n : Nibble) : StopsWithRead (op.imm m n) m :=
  stopsWithRead_of_error fun s f hf => by
    rw [exec_logic_imm, logicMI, operandsMI_of_memRead_error hf, onOk_error]

/-- Settles O18: the register form is a register write of the bitwise result whatever the flags are. -/
theorem logicalRegisterForms : Obligations.LogicalRegisterForms := by
  intro op r m
  refine ⟨decode_logic_reg op r m, fun s b hb => ?_, logic_reg_stopsWithRead op r m⟩
  refine ⟨logicFn op (s.reg r) b, (s.setReg r (logicFn op (s.reg r) b)).nextPc, logicResult_logicFn op _ b, ?exec,
    ?written, ?flags, ?ports, ?control, ?pc⟩
  case exec => rw [exec_logic_reg, logicRM_of_memRead hb]
  case written => exact regWritten_setReg s r _
  case flags => simp [FlagsKept]
  case ports => simp [PortsKept]
  case control => simp [ControlKept]
  case pc => simp [Advanced]

/-- Settles O19: the immediate form is a store of the bitwise result at the address it read. -/
theorem logicalMemoryForms : Obligations.LogicalMemoryForms := by
  intro op m n
  refine ⟨decode_logic_imm op m n, fun s a ha => ?_, logic_imm_stopsWithRead op m n⟩
  obtain ⟨t, ht, hframe⟩ := storeAt_of_memRead ha (logicFn op a n)
  refine ⟨logicFn op a n, t, logicResult_logicFn op a n, ?_, hframe⟩
  rw [exec_logic_imm, logicMI_of_memRead ha, ht]

end Sys2Proof.Proofs
end

section
/-! SKE, SKNE, SKGE and SKLT (42_judge_compare.md R183 to R187): the four mnemonics as one condition on nibbles, the
execution shape they share, and the statement O22. -/

namespace Sys2Proof.Proofs

open Sys2Proof Sys2Proof.Machine Sys2Proof.Claims

/-- The condition the mnemonic tests, data memory first (42_judge_compare.md R184 to R187). -/
def compareFn (op : CompareOp) : Nibble → Nibble → Bool :=
  match op with
  | .ske => fun v n => v == n
  | .skne => fun v n => v != n
  | .skge => fun v n => decide (n ≤ v)
  | .sklt => fun v n => decide (v < n)

/-- The tested condition is the mnemonic's relation of the unsigned values. -/
theorem compareFn_iff_skips (op : CompareOp) (v n : Nibble) : compareFn op v n = true ↔ op.skips v n := by
  cases op with
  | ske => exact beq_iff_eq.trans BitVec.toNat_inj.symm
  | skne => exact bne_iff_ne.trans BitVec.toNat_inj.not.symm
  | skge => exact decide_eq_true_iff.trans BitVec.le_def
  | sklt => exact decide_eq_true_iff.trans BitVec.lt_def

theorem exec_compare (op : CompareOp) (m : DataAddr) (n : Nibble) (s : State) :
    exec (op.instr m n) s = compareWith (compareFn op) m n s := by cases op <;> rfl

theorem decode_compare (op : CompareOp) (m : DataAddr) (n : Nibble) :
    decode (packWord op.code m n) = .ok (op.instr m n) := by
  cases op <;> simp [decode, CompareOp.code, CompareOp.instr]

theorem compareWith_of_memRead {s : State} {m : DataAddr} {v : Nibble} (h : memRead s m = .ok v)
    (cond : Nibble → Nibble → Bool) (n : Nibble) :
    compareWith cond m n s = .next (s.skipIf (cond v n)).nextPc := by
  rw [compareWith, operandsMI_of_memRead h, onOk_ok]

theorem compare_stopsWithRead (op : CompareOp) (m : DataAddr) (n : Nibble) : StopsWithRead (op.instr m n) m :=
  stopsWithRead_of_error fun s f hf => by
    rw [exec_compare, compareWith, operandsMI_of_memRead_error hf, onOk_error]

/-- A skip decided by a test is pending after it, and one that was pending stays so (42_judge_compare.md R188). -/
theorem advancedSkipping_skipIf (s : State) {c : Bool} {cond : Prop} (h : c = true ↔ cond) :
    AdvancedSkipping s (s.skipIf c).nextPc cond := by
  refine ⟨by simp, ?_⟩
  rw [State.nextPc_skip, State.skipIf_skip, Bool.or_eq_true, h, or_comm]

/-- Settles O22: a comparison is a skip decision on the nibble it read, and a skip decision touches only pc and the
pending skip. -/
theorem comparisonsSkip : Obligations.ComparisonsSkip := by
  intro op m n
  refine ⟨decode_compare op m n, fun s v hv => ?_, compare_stopsWithRead op m n⟩
  refine ⟨(s.skipIf (compareFn op v n)).nextPc, ?exec, ?skip, ?flags, ?regs, ?ports, ?control⟩
  case exec => rw [exec_compare, compareWith_of_memRead hv]
  case skip => exact advancedSkipping_skipIf s (compareFn_iff_skips op v n)
  case flags => simp [FlagsKept]
  case regs => simp [RegsKept]
  case ports => simp [PortsKept]
  case control => simp [ControlKept]

end Sys2Proof.Proofs
end

section
/-! RORC, LD, ST and MOV (43_rotate_transfer.md R201, R204 to R206): the bits of a rotated nibble, the two transfers
that store without a read of their own, and the statements O23, O25, O26 and O27. -/

namespace Sys2Proof.Proofs

open Sys2Proof Sys2Proof.Machine Sys2Proof.Claims

/-! ### Stores that do not read -/

/-- An address the source describes can be read, and so can every other unless the policy is to stop
(20_memory.md R65, R66). -/
theorem memRead_of_implemented_or_policy {s : State} {m : DataAddr} (h : Implemented m ∨ s.chip.absent ≠ .fault) :
    ∃ a, memRead s m = .ok a := by
  cases hr : memRead s m with
  | ok a => exact ⟨a, rfl⟩
  | error f =>
    obtain ⟨hplace, hpolicy, -⟩ := memRead_error hr
    obtain himpl | hne := h
    · exact absurd himpl ((place_eq_absent m).mp hplace)
    · exact absurd hpolicy hne

/-- Writes go through wherever reads do, so a store stops on nothing but an absent address under the policy `fault`. -/
theorem storeAt_of_implemented_or_policy {s : State} {m : DataAddr} (h : Implemented m ∨ s.chip.absent ≠ .fault)
    (v : Nibble) : ∃ t, storeAt s m v = .next t ∧ Stored s t m v ∧ ControlKept s t ∧ Advanced s t := by
  obtain ⟨a, ha⟩ := memRead_of_implemented_or_policy h
  exact storeAt_of_memRead ha v

/-- Whether a write stops does not depend on the value. -/
theorem memWrite_error_congr {s : State} {m : DataAddr} {v : Nibble} {f : Fault} (h : memWrite s m v = .error f)
    (w : Nibble) : memWrite s m w = .error f := by
  obtain ⟨hplace, -, -⟩ := memWrite_error h
  simp only [memWrite, hplace] at h ⊢
  exact h

/-- An instruction that is a store at `m`, of whatever value, stops exactly as a write of `m` does. -/
theorem stopsWithWrite_of_storeAt {i : Instr} {m : DataAddr} {value : State → Nibble}
    (h : ∀ s, exec i s = storeAt s m (value s)) : StopsWithWrite i m := by
  intro s v f hf
  obtain ⟨-, -, hfault⟩ := memWrite_error hf
  exact ⟨by rw [h, storeAt, memWrite_error_congr hf, onOk_error], hfault⟩

/-! ### Rotation -/

/-- The rotated nibble is CY above the three upper bits. -/
theorem getLsbD_rotatedRight (v : Nibble) (cy : Bool) (k : Nat) : (rotatedRight v cy).getLsbD k =
    if k < 3 then (v.extractLsb' 1 3).getLsbD k else (BitVec.ofBool cy).getLsbD (k - 3) := BitVec.getLsbD_append

/-- CY enters at the top (43_rotate_transfer.md R201). -/
theorem rotatedRight_top (v : Nibble) (cy : Bool) : (rotatedRight v cy).getLsbD 3 = cy := by
  rw [getLsbD_rotatedRight]
  simp

/-- Every other bit comes from one place above (43_rotate_transfer.md R201). -/
theorem rotatedRight_below (v : Nibble) (cy : Bool) {k : Nat} (hk : k < 3) :
    (rotatedRight v cy).getLsbD k = v.getLsbD (k + 1) := by
  rw [getLsbD_rotatedRight, if_pos hk, BitVec.getLsbD_extractLsb', decide_eq_true hk, Bool.true_and, Nat.add_comm]

/-! ### What the instructions do -/

theorem exec_rorc (r : RegNum) (s : State) : exec (.rorc r) s =
    .next ((s.setReg r (rotatedRight (s.reg r) s.cy)).setCarry ((s.reg r).getLsbD 0)).nextPc := rfl

theorem exec_ld (r : RegNum) (m : DataAddr) (s : State) :
    exec (.ld r m) s = onOk (memRead s m) fun v => .next (s.setReg r v).nextPc := rfl

theorem exec_st (m : DataAddr) (r : RegNum) (s : State) : exec (.st m r) s = storeAt s m (s.reg r) := rfl

theorem exec_mov (m : DataAddr) (n : Nibble) (s : State) : exec (.mov m n) s = storeAt s m n := rfl

theorem decode_rorc (r : RegNum) : decode (packWord 0b00111#5 0b0000111#7 r) = .ok (.rorc r) := by
  simp [decode, decodeSubcode]

theorem decode_ld (r : RegNum) (m : DataAddr) : decode (packWord 0b01000#5 m r) = .ok (.ld r m) := by
  simp [decode]

theorem decode_st (m : DataAddr) (r : RegNum) : decode (packWord 0b11000#5 m r) = .ok (.st m r) := by
  simp [decode]

theorem decode_mov (m : DataAddr) (n : Nibble) : decode (packWord 0b11101#5 m n) = .ok (.mov m n) := by
  simp [decode]

theorem ld_stopsWithRead (r : RegNum) (m : DataAddr) : StopsWithRead (.ld r m) m :=
  stopsWithRead_of_error fun s f hf => by rw [exec_ld, hf, onOk_error]

/-- Settles O23: RORC is a write of the rotated nibble and of CY, with no access to the data memory that could stop. -/
theorem rorcRotatesRightThroughCarry : Obligations.RorcRotatesRightThroughCarry := by
  intro r
  refine ⟨decode_rorc r, fun s => ?_⟩
  refine ⟨((s.setReg r (rotatedRight (s.reg r) s.cy)).setCarry ((s.reg r).getLsbD 0)).nextPc,
    rotatedRight (s.reg r) s.cy, exec_rorc r s, ?written, rotatedRight_top _ _, rotatedRight_below _ _ (by decide),
    rotatedRight_below _ _ (by decide), rotatedRight_below _ _ (by decide), ?cy, ?z, ?bcd, ?cmp, ?ports, ?control, ?pc⟩
  case written => exact regWritten_setReg s r _
  case ports => simp [PortsKept]
  case control => simp [ControlKept]
  case pc => simp [Advanced]
  all_goals rfl

/-- Settles O25: LD is a register write of the nibble it read. -/
theorem loadRegister : Obligations.LoadRegister := by
  intro r m
  refine ⟨decode_ld r m, fun s v hv => ?_, ld_stopsWithRead r m⟩
  refine ⟨(s.setReg r v).nextPc, ?exec, ?written, ?flags, ?ports, ?control, ?pc⟩
  case exec => rw [exec_ld, hv, onOk_ok]
  case written => exact regWritten_setReg s r v
  case flags => simp [FlagsKept]
  case ports => simp [PortsKept]
  case control => simp [ControlKept]
  case pc => simp [Advanced]

/-- Settles O26: ST is a store of the register's nibble, framed and stopped as every store is. -/
theorem storeRegister : Obligations.StoreRegister := by
  intro r m
  refine ⟨decode_st m r, fun s hs => ?_, stopsWithWrite_of_storeAt (exec_st m r)⟩
  rw [exec_st]
  exact storeAt_of_implemented_or_policy hs (s.reg r)

/-- Settles O27: MOV is a store of the immediate, framed and stopped as every store is. -/
theorem moveImmediate : Obligations.MoveImmediate := by
  intro m n
  refine ⟨decode_mov m n, fun s hs => ?_, stopsWithWrite_of_storeAt (exec_mov m n)⟩
  rw [exec_mov]
  exact storeAt_of_implemented_or_policy hs n

end Sys2Proof.Proofs
end

section
/-! NOP (45_other.md R230): its word, what it does, and the statement O33. -/

namespace Sys2Proof.Proofs

open Sys2Proof Sys2Proof.Machine Sys2Proof.Claims

theorem exec_nop (s : State) : exec .nop s = .next s.nextPc := rfl

theorem decode_nop : decode (packWord 0b00111#5 0b1001111#7 0#4) = .ok .nop := by
  simp [decode, decodeSubcode]

/-- NOP's three fields spell the word of the opcode table (30_encoding.md R113 row 31). -/
theorem packWord_nop : packWord 0b00111#5 0b1001111#7 0#4 = 0x3CF0#16 := by decide

/-- Settles O33: the word is read from its fields, and `nextPc` is by definition the advance of pc alone. -/
theorem nopOnlyAdvancesPc : Obligations.NopOnlyAdvancesPc := by
  refine ⟨?word, fun s => ?effect⟩
  case word => rw [← packWord_nop, decode_nop]
  case effect => rw [exec_nop, State.nextPc]

end Sys2Proof.Proofs
end

section
/-! Standby (60_exceptions.md R294): which executions can change the operating mode, what one step does in a standby
mode with RESET high, and the statement O37. -/

namespace Sys2Proof.Proofs

open Sys2Proof Sys2Proof.Machine Sys2Proof.Claims

/-! ### What branches and returns do when they go through -/

theorem execBr_next {a : BitVec 11} {s t : State} (h : execBr a s = .next t) :
    addrBitsZero a = true ∧ t = s.jump (branchTarget a) := by
  unfold execBr at h
  split at h
  · next ha =>
    cases h
    exact ⟨ha, rfl⟩
  · cases h

theorem execCall_next {a : BitVec 11} {s t : State} (h : execCall a s = .next t) :
    addrBitsZero a = true ∧ s.depth = false ∧ t = (s.pushReturn (s.pc + 1#9)).jump (branchTarget a) := by
  unfold execCall at h
  split at h
  · cases h
  · next ha =>
    split at h
    · cases h
    · next hd =>
      cases h
      exact ⟨by simpa using ha, by simpa using hd, rfl⟩

theorem execRet_next {s t : State} (h : execRet s = .next t) : s.depth = true ∧ t = s.popReturn := by
  unfold execRet at h
  split at h
  · next hd =>
    cases h
    exact ⟨hd, rfl⟩
  · cases h

theorem execRetsk_next {s t : State} (h : execRetsk s = .next t) :
    s.depth = true ∧ t = s.popReturn.setSkip true := by
  unfold execRetsk at h
  split at h
  · next hd =>
    cases h
    exact ⟨hd, rfl⟩
  · cases h

/-! ### The operating mode under each execution shape -/

theorem memWrite_mode {s t : State} {m : DataAddr} {v : Nibble} (h : memWrite s m v = .ok t) : t.mode = s.mode := by
  obtain ⟨-, -, -, -, hmode, -⟩ := memWrite_frame h
  exact hmode

theorem storeAt_mode {s t : State} {m : DataAddr} {v : Nibble} (h : storeAt s m v = .next t) : t.mode = s.mode := by
  obtain ⟨u, hu, rfl⟩ := storeAt_next h
  rw [State.nextPc_mode, memWrite_mode hu]

theorem arithExec_mode {dir : Direction} {m : DataAddr} {x : AluInput} {c : Bool} {s t : State}
    (h : arithExec dir m x c s = .next t) : t.mode = s.mode := by
  obtain ⟨-, rfl⟩ | ⟨-, u, hu, rfl⟩ := arithExec_next h
  · rfl
  · rw [State.nextPc_mode, memWrite_mode hu, State.setCarryZero_mode]

theorem arithRM_mode {dir : Direction} {r : RegNum} {m : DataAddr} {c : Bool} {s t : State}
    (h : arithRM dir r m c s = .next t) : t.mode = s.mode := by
  obtain ⟨x, -, hx⟩ := onOk_next h
  exact arithExec_mode hx

theorem arithMI_mode {dir : Direction} {m : DataAddr} {n : Nibble} {c : Bool} {s t : State}
    (h : arithMI dir m n c s = .next t) : t.mode = s.mode := by
  obtain ⟨x, -, hx⟩ := onOk_next h
  exact arithExec_mode hx

theorem logicRM_mode {f : Nibble → Nibble → Nibble} {r : RegNum} {m : DataAddr} {s t : State}
    (h : logicRM f r m s = .next t) : t.mode = s.mode := by
  obtain ⟨x, -, hx⟩ := onOk_next h
  cases hx
  rfl

theorem logicMI_mode {f : Nibble → Nibble → Nibble} {m : DataAddr} {n : Nibble} {s t : State}
    (h : logicMI f m n s = .next t) : t.mode = s.mode := by
  obtain ⟨x, -, hx⟩ := onOk_next h
  exact storeAt_mode hx

theorem judge_mode {cond : Nibble → Nibble → Bool} {m : DataAddr} {n : Nibble} {s t : State}
    (h : judge cond m n s = .next t) : t.mode = s.mode := by
  obtain ⟨x, -, hx⟩ := onOk_next h
  cases hx
  simp

theorem exec_compare_mode (op : CompareOp) {m : DataAddr} {n : Nibble} {s t : State}
    (h : exec (op.instr m n) s = .next t) : t.mode = s.mode := by
  rw [exec_compare] at h
  obtain ⟨x, -, hx⟩ := onOk_next h
  cases hx
  simp

/-- Every instruction but HALT and STOP leaves the operating mode alone (10_state.md R40). -/
theorem exec_mode_kept_or_standby {i : Instr} {s t : State} (h : exec i s = .next t) :
    t.mode = s.mode ∨ ∃ c, i = .halt c ∨ i = .stop c := by
  cases i with
  | halt c => exact .inr ⟨c, .inl rfl⟩
  | stop c => exact .inr ⟨c, .inr rfl⟩
  | addRM | addcRM | subRM | subcRM => exact .inl (arithRM_mode h)
  | addMI | addcMI | subMI | subcMI => exact .inl (arithMI_mode h)
  | orRM | andRM | xorRM => exact .inl (logicRM_mode h)
  | orMI | andMI | xorMI => exact .inl (logicMI_mode h)
  | skt | skf => exact .inl (judge_mode h)
  | ske => exact .inl (exec_compare_mode .ske h)
  | skne => exact .inl (exec_compare_mode .skne h)
  | skge => exact .inl (exec_compare_mode .skge h)
  | sklt => exact .inl (exec_compare_mode .sklt h)
  | st | mov => exact .inl (storeAt_mode h)
  | ld =>
    obtain ⟨v, -, hv⟩ := onOk_next h
    cases hv
    exact .inl rfl
  | br =>
    obtain ⟨-, rfl⟩ := execBr_next h
    exact .inl rfl
  | call =>
    obtain ⟨-, -, rfl⟩ := execCall_next h
    exact .inl rfl
  | ret =>
    obtain ⟨-, rfl⟩ := execRet_next h
    exact .inl rfl
  | retsk =>
    obtain ⟨-, rfl⟩ := execRetsk_next h
    exact .inl rfl
  | rorc | nop =>
    cases h
    exact .inl rfl

/-! ### Into standby -/

/-- Neither the reset event nor a held reset puts the chip in standby. -/
theorem whileResetLow_mode_of_run {s : State} (hm : s.mode = .run) : (whileResetLow s).mode = .run := by
  unfold whileResetLow
  split
  · exact hm
  · rfl

/-- A cycle that changes the mode runs an un-skipped HALT or STOP. -/
theorem cpuStep_mode_kept_or_standby {s t : State} (h : cpuStep s = .next t) :
    t.mode = s.mode ∨
      (s.skip = false ∧ ∃ w i c, fetchWord s = some w ∧ decode w = .ok i ∧ (i = .halt c ∨ i = .stop c)) := by
  obtain ⟨-, rfl⟩ | ⟨hskip, w, i, hw, hi, hexec⟩ := cpuStep_next h
  · exact .inl rfl
  · obtain hmode | ⟨c, hc⟩ := exec_mode_kept_or_standby hexec
    · exact .inl hmode
    · exact .inr ⟨hskip, w, i, c, hw, hi, hc⟩

/-- Standby is entered with RESET high, by an un-skipped HALT or STOP (60_exceptions.md R294). -/
theorem standby_entered_by_instruction {s t : State} (h : step s = .next t) (hrun : s.mode = .run)
    (hstandby : t.mode ≠ .run) :
    resetLevel s = true ∧ s.skip = false ∧
      ∃ w i c, fetchWord s = some w ∧ decode w = .ok i ∧ (i = .halt c ∨ i = .stop c) := by
  obtain ⟨u, hu, rfl⟩ := step_next h
  obtain ⟨-, rfl⟩ | ⟨hreset, hhigh⟩ := evaluate_next hu
  · exact absurd (whileResetLow_mode_of_run hrun) hstandby
  · have hcycle : cpuStep (s.setResetHeld false) = .next u := by simpa [whileResetHigh, hrun] using hhigh
    obtain hmode | hentered := cpuStep_mode_kept_or_standby hcycle
    · exact absurd (hmode.trans hrun) hstandby
    · exact ⟨hreset, hentered⟩

/-! ### In standby -/

/-- The release pin of the standby mode is high (60_exceptions.md R295, R297, R298). -/
def ReleasePinHigh (s : State) : Prop :=
  (s.mode = .halt .p0b0 ∧ pinLevel s .p0b0 = true) ∨ (s.mode = .stop .p0b1 ∧ pinLevel s .p0b1 = true)

/-- An evaluation in standby with RESET high writes the mode alone, and that only to leave standby at its release pin. -/
theorem whileResetHigh_standby {s u : State} (h : whileResetHigh s = .next u) (hm : s.mode ≠ .run) :
    ∃ m, u = s.setMode m ∧ (m = s.mode ∨ (m = .run ∧ ReleasePinHigh s)) := by
  obtain ⟨hrun, -⟩ | ⟨hhalt, rfl⟩ | ⟨hstop, rfl⟩ | ⟨-, rfl⟩ := whileResetHigh_next h
  · exact absurd hrun hm
  · split
    · next hpin => exact ⟨.run, rfl, .inr ⟨rfl, .inl ⟨hhalt, hpin⟩⟩⟩
    · exact ⟨s.mode, rfl, .inl rfl⟩
  · split
    · next hpin => exact ⟨.run, rfl, .inr ⟨rfl, .inr ⟨hstop, hpin⟩⟩⟩
    · exact ⟨s.mode, rfl, .inl rfl⟩
  · exact ⟨u.mode, rfl, .inl rfl⟩

@[simp] theorem releasePinHigh_setResetHeld (s : State) (b : Bool) :
    ReleasePinHigh (s.setResetHeld b) ↔ ReleasePinHigh s := by
  simp [ReleasePinHigh]

/-- All that a step in standby with RESET high can do. -/
theorem step_standby {s t : State} (h : step s = .next t) (hm : s.mode ≠ .run) (hreset : resetLevel s = true) :
    ∃ m, t = ((s.setResetHeld false).setMode m).endEvaluation ∧ (m = s.mode ∨ (m = .run ∧ ReleasePinHigh s)) := by
  obtain ⟨u, hu, rfl⟩ := step_next h
  obtain ⟨hlow, -⟩ | ⟨-, hhigh⟩ := evaluate_next hu
  · exact absurd (hreset.symm.trans hlow) (by decide)
  · obtain ⟨m, rfl, hmode⟩ := whileResetHigh_standby hhigh hm
    rw [releasePinHigh_setResetHeld] at hmode
    exact ⟨m, rfl, hmode⟩

/-- The chip's own drive on a pin depends on the latches and directions alone (60_exceptions.md R288). -/
theorem pinOut_of_portsKept {s t : State} (h : PortsKept s t) (p : Pin) : pinOut t p = pinOut s p := by
  obtain ⟨hlatchB, hlatchC, hlatchD, houtB, houtC, houtD⟩ := h
  cases p <;> simp only [pinOut, hlatchB, hlatchC, hlatchD, houtB, houtC, houtD]

/-- Settles O37: only HALT and STOP write a standby mode, and a step in standby writes the mode, the reset marker and
the environment's position alone. -/
theorem standbyEnteredByInstructionAndHeld : Obligations.StandbyEnteredByInstructionAndHeld := by
  refine ⟨fun _ _ => standby_entered_by_instruction, fun s t h hm hreset => ?_⟩
  obtain ⟨m, rfl, hmode⟩ := step_standby h hm hreset
  have hports : PortsKept s ((s.setResetHeld false).setMode m).endEvaluation := by simp [PortsKept]
  refine ⟨rfl, rfl, rfl, rfl, ?regs, ?flags, hports, pinOut_of_portsKept hports, rfl, hmode⟩
  case regs => simp [RegsKept]
  case flags => simp [FlagsKept]

end Sys2Proof.Proofs
end

section
/-! The instruction list by families, and the decoder against the encoder and against the rows of the instruction list
(30_encoding.md R100 to R120): the statements O1 to O4. -/

namespace Sys2Proof.Proofs

open Sys2Proof Sys2Proof.Machine Sys2Proof.Claims

/-- Case split by family: a property of every instruction is one of the four arithmetic mnemonics in both forms, the
three logical ones in both forms, the two bit tests, the four comparisons, and the eleven others. -/
theorem instr_families {P : Instr → Prop}
    (arithReg : ∀ (op : ArithOp) r m, P (op.reg r m)) (arithImm : ∀ (op : ArithOp) m n, P (op.imm m n))
    (logicReg : ∀ (op : LogicOp) r m, P (op.reg r m)) (logicImm : ∀ (op : LogicOp) m n, P (op.imm m n))
    (skt : ∀ m n, P (.skt m n)) (skf : ∀ m n, P (.skf m n))
    (compare : ∀ (op : CompareOp) m n, P (op.instr m n))
    (rorc : ∀ r, P (.rorc r)) (ld : ∀ r m, P (.ld r m)) (st : ∀ m r, P (.st m r)) (mov : ∀ m n, P (.mov m n))
    (br : ∀ a, P (.br a)) (call : ∀ a, P (.call a)) (ret : P .ret) (retsk : P .retsk)
    (stop : ∀ c, P (.stop c)) (halt : ∀ c, P (.halt c)) (nop : P .nop) (i : Instr) : P i := by
  cases i with
  | addRM r m => exact arithReg .add r m
  | addcRM r m => exact arithReg .addc r m
  | subRM r m => exact arithReg .sub r m
  | subcRM r m => exact arithReg .subc r m
  | addMI m n => exact arithImm .add m n
  | addcMI m n => exact arithImm .addc m n
  | subMI m n => exact arithImm .sub m n
  | subcMI m n => exact arithImm .subc m n
  | orRM r m => exact logicReg .or r m
  | andRM r m => exact logicReg .and r m
  | xorRM r m => exact logicReg .xor r m
  | orMI m n => exact logicImm .or m n
  | andMI m n => exact logicImm .and m n
  | xorMI m n => exact logicImm .xor m n
  | ske m n => exact compare .ske m n
  | skne m n => exact compare .skne m n
  | skge m n => exact compare .skge m n
  | sklt m n => exact compare .sklt m n
  | skt m n => exact skt m n
  | skf m n => exact skf m n
  | rorc r => exact rorc r
  | ld r m => exact ld r m
  | st m r => exact st m r
  | mov m n => exact mov m n
  | br a => exact br a
  | call a => exact call a
  | ret => exact ret
  | retsk => exact retsk
  | stop c => exact stop c
  | halt c => exact halt c
  | nop => exact nop

/-! ### The word of each family -/

theorem decode_encode_arith_reg (op : ArithOp) (r : RegNum) (m : DataAddr) :
    decode (encode (op.reg r m)) = .ok (op.reg r m) := by
  cases op <;> simp [ArithOp.reg, encode, decode]

theorem decode_encode_arith_imm (op : ArithOp) (m : DataAddr) (n : Nibble) :
    decode (encode (op.imm m n)) = .ok (op.imm m n) := by
  cases op <;> simp [ArithOp.imm, encode, decode]

theorem encode_logic_reg (op : LogicOp) (r : RegNum) (m : DataAddr) :
    encode (op.reg r m) = packWord op.regCode m r := by cases op <;> rfl

theorem encode_logic_imm (op : LogicOp) (m : DataAddr) (n : Nibble) :
    encode (op.imm m n) = packWord op.immCode m n := by cases op <;> rfl

theorem encode_compare (op : CompareOp) (m : DataAddr) (n : Nibble) :
    encode (op.instr m n) = packWord op.code m n := by cases op <;> rfl

/-- Operation code 00111 hands the word's other fields to the sub-code table (30_encoding.md R116). -/
theorem decode_packWord_subcode (mid : BitVec 7) (low : Nibble) :
    decode (packWord 0b00111#5 mid low) = decodeSubcode mid low := by simp [decode]

/-- Settles O1: each family's word has the operation code of one arm of the decoder, and the fields of a packed word
are the operands; the reserved bits of BR, CALL, STOP and HALT are clear because the instruction is well formed. -/
theorem decodeInvertsEncode : Obligations.DecodeInvertsEncode := by
  intro i hwf
  induction i using instr_families with
  | arithReg op r m => exact decode_encode_arith_reg op r m
  | arithImm op m n => exact decode_encode_arith_imm op m n
  | logicReg op r m => rw [encode_logic_reg, decode_logic_reg]
  | logicImm op m n => rw [encode_logic_imm, decode_logic_imm]
  | compare op m n => rw [encode_compare, decode_compare]
  | skt m n | skf m n => simp [encode, decode]
  | rorc r => exact decode_rorc r
  | ld r m => exact decode_ld r m
  | st m r => exact decode_st m r
  | mov m n => exact decode_mov m n
  | br a | call a =>
    have ha : addrBitsZero a = true := hwf
    simp [encode, decode, ha]
  | stop c | halt c =>
    have hc : conditionBitsZero c = true := hwf
    simp [encode, decode_packWord_subcode, decodeSubcode, hc]
  | ret | retsk | nop => simp [encode, decode_packWord_subcode, decodeSubcode]

/-! ### From the word to the instruction -/

theorem packWord_of_opField {w : Word} {op : BitVec 5} (h : opField w = op) :
    packWord op (midField w) (lowField w) = w := h ▸ packWord_fields w

theorem packAddr_of_opField {w : Word} {op : BitVec 5} (h : opField w = op) : packAddr op (addrField w) = w :=
  h ▸ packAddr_fields w

/-- A sub-code that is assigned is the one of the instruction read (30_encoding.md R116). -/
theorem decodeSubcode_ok {mid : BitVec 7} {low : Nibble} {i : Instr} (h : decodeSubcode mid low = .ok i) :
    encode i = packWord 0b00111#5 mid low ∧ i.wellFormed = true := by
  unfold decodeSubcode at h
  split at h
  case h_1 =>
    cases h
    exact ⟨rfl, rfl⟩
  case h_2 | h_3 | h_6 =>
    split at h
    · next hlow =>
      cases h
      exact ⟨hlow ▸ rfl, rfl⟩
    · cases h
  case h_4 | h_5 =>
    split at h
    · next hlow =>
      cases h
      exact ⟨rfl, hlow⟩
    · cases h
  case h_7 => cases h

/-- Settles O2: the decoder's arms read the fields of the word, and a word is packed from its fields. -/
theorem encodeInvertsDecode : Obligations.EncodeInvertsDecode := by
  intro w i h
  unfold decode at h
  dsimp only at h
  split at h
  case h_8 hop =>
    obtain ⟨hword, hwf⟩ := decodeSubcode_ok h
    exact ⟨hword.trans (packWord_of_opField hop), hwf⟩
  case h_12 hop | h_23 hop =>
    split at h
    · next haddr =>
      cases h
      exact ⟨packAddr_of_opField hop, haddr⟩
    · cases h
  case h_27 => cases h
  all_goals
    next hop =>
    cases h
    exact ⟨packWord_of_opField hop, rfl⟩

/-! ### The rows of the instruction list -/

theorem covers_iff (row : OpcodeRow) (w : Word) : row.covers w = true ↔ w &&& row.mask = row.pattern := by
  simp [OpcodeRow.covers]

theorem opcodeRow_covers_encode {i : Instr} (hwf : i.wellFormed = true) : (opcodeRow i).covers (encode i) = true := by
  cases i with
  | addRM r m => exact Laws.MatchesTable.addRM r m hwf
  | addMI m n => exact Laws.MatchesTable.addMI m n hwf
  | addcRM r m => exact Laws.MatchesTable.addcRM r m hwf
  | addcMI m n => exact Laws.MatchesTable.addcMI m n hwf
  | subRM r m => exact Laws.MatchesTable.subRM r m hwf
  | subMI m n => exact Laws.MatchesTable.subMI m n hwf
  | subcRM r m => exact Laws.MatchesTable.subcRM r m hwf
  | subcMI m n => exact Laws.MatchesTable.subcMI m n hwf
  | orRM r m => exact Laws.MatchesTable.orRM r m hwf
  | orMI m n => exact Laws.MatchesTable.orMI m n hwf
  | andRM r m => exact Laws.MatchesTable.andRM r m hwf
  | andMI m n => exact Laws.MatchesTable.andMI m n hwf
  | xorRM r m => exact Laws.MatchesTable.xorRM r m hwf
  | xorMI m n => exact Laws.MatchesTable.xorMI m n hwf
  | skt m n => exact Laws.MatchesTable.skt m n hwf
  | skf m n => exact Laws.MatchesTable.skf m n hwf
  | ske m n => exact Laws.MatchesTable.ske m n hwf
  | skne m n => exact Laws.MatchesTable.skne m n hwf
  | skge m n => exact Laws.MatchesTable.skge m n hwf
  | sklt m n => exact Laws.MatchesTable.sklt m n hwf
  | rorc r => exact Laws.MatchesTable.rorc r hwf
  | ld r m => exact Laws.MatchesTable.ld r m hwf
  | st m r => exact Laws.MatchesTable.st m r hwf
  | mov m n => exact Laws.MatchesTable.mov m n hwf
  | br a => exact Laws.MatchesTable.br a hwf
  | call a => exact Laws.MatchesTable.call a hwf
  | ret => exact Laws.MatchesTable.ret hwf
  | retsk => exact Laws.MatchesTable.retsk hwf
  | stop c => exact Laws.MatchesTable.stop c hwf
  | halt c => exact Laws.MatchesTable.halt c hwf
  | nop => exact Laws.MatchesTable.nop hwf

theorem opcodeRow_mem (i : Instr) : opcodeRow i ∈ opcodeTable := by
  cases i <;> simp [opcodeRow, opcodeTable]

theorem opField_and (w x : Word) : opField (w &&& x) = opField w &&& opField x := BitVec.extractLsb'_and

theorem midField_and (w x : Word) : midField (w &&& x) = midField w &&& midField x := BitVec.extractLsb'_and

theorem lowField_and (w x : Word) : lowField (w &&& x) = lowField w &&& lowField x := BitVec.extractLsb'_and

theorem addrField_and (w x : Word) : addrField (w &&& x) = addrField w &&& addrField x := BitVec.extractLsb'_and

/-- The 23 operation codes that are an instruction whatever the other bits are (30_encoding.md R113). -/
def wholeOpcodes : List (BitVec 5) :=
  [0b00000#5, 0b00001#5, 0b00010#5, 0b00011#5, 0b00100#5, 0b00101#5, 0b00110#5, 0b01000#5, 0b01001#5, 0b01011#5,
   0b10000#5, 0b10001#5, 0b10010#5, 0b10011#5, 0b10100#5, 0b10101#5, 0b10110#5, 0b11000#5, 0b11001#5, 0b11011#5,
   0b11101#5, 0b11110#5, 0b11111#5]

theorem decode_of_wholeOpcode {w : Word} (h : opField w ∈ wholeOpcodes) : ∃ i, decode w = .ok i := by
  unfold decode
  dsimp only
  split
  case h_8 hop | h_12 hop | h_23 hop =>
    rw [hop] at h
    exact absurd h (by decide)
  case h_27 => simp_all [wholeOpcodes]
  all_goals exact ⟨_, rfl⟩

theorem decode_of_addressOpcode {w : Word} (hop : opField w = 0b01100#5 ∨ opField w = 0b11100#5)
    (haddr : addrBitsZero (addrField w) = true) : ∃ i, decode w = .ok i := by
  obtain hop | hop := hop <;> simp [decode, hop, haddr]

theorem decode_of_subcodeOpcode {w : Word} (hop : opField w = 0b00111#5) :
    decode w = decodeSubcode (midField w) (lowField w) := by simp [decode, hop]

/-- The three kinds of row: an operation code alone; a branch code with the reserved address bits; code 00111, where the
row fixes the sub-code and admits only low fields that the sub-code table assigns (30_encoding.md R113, R116). -/
theorem opcodeTable_kinds : ∀ row ∈ opcodeTable, opField row.mask = 31#5 ∧
    (opField row.pattern ∈ wholeOpcodes ∨
    ((opField row.pattern = 0b01100#5 ∨ opField row.pattern = 0b11100#5) ∧
      addrField row.mask = 0x600#11 ∧ addrField row.pattern = 0#11) ∨
    (opField row.pattern = 0b00111#5 ∧ midField row.mask = 127#7 ∧
      ∀ low, low &&& lowField row.mask = lowField row.pattern →
        (decodeSubcode (midField row.pattern) low).isOk = true)) := by
  decide

theorem exists_ok_of_isOk {x : Except Reject Instr} (h : x.isOk = true) : ∃ i, x = .ok i := by
  cases x with
  | ok i => exact ⟨i, rfl⟩
  | error e => cases h

/-- A word that some row covers decodes. -/
theorem decode_of_covers {row : OpcodeRow} (hrow : row ∈ opcodeTable) {w : Word} (h : row.covers w = true) :
    ∃ i, decode w = .ok i := by
  have hmask : w &&& row.mask = row.pattern := (covers_iff row w).mp h
  obtain ⟨hopMask, hkind⟩ := opcodeTable_kinds row hrow
  have hop : opField w = opField row.pattern := by
    rw [← hmask, opField_and, hopMask]
    exact BitVec.and_allOnes.symm
  rw [← hop] at hkind
  obtain hwhole | ⟨hbranch, haddrMask, haddrZero⟩ | ⟨hsub, hmidMask, hlow⟩ := hkind
  · exact decode_of_wholeOpcode hwhole
  · refine decode_of_addressOpcode hbranch ((addrBitsZero_iff _).mpr ?_)
    rw [← haddrMask, ← addrField_and, hmask, haddrZero]
  · have hmid : midField w = midField row.pattern := by
      rw [← hmask, midField_and, hmidMask]
      exact BitVec.and_allOnes.symm
    rw [decode_of_subcodeOpcode hsub, hmid]
    exact exists_ok_of_isOk (hlow _ (by rw [← lowField_and, hmask]))

/-- Two rows differ in a bit that both fix, or are the same row. -/
theorem opcodeTable_disjoint : ∀ p ∈ opcodeTable, ∀ q ∈ opcodeTable,
    p.pattern &&& q.mask = q.pattern &&& p.mask → p = q := by
  decide

theorem row_eq_of_covers {p q : OpcodeRow} (hp : p ∈ opcodeTable) (hq : q ∈ opcodeTable) {w : Word}
    (hpw : p.covers w = true) (hqw : q.covers w = true) : p = q := by
  rw [covers_iff] at hpw hqw
  refine opcodeTable_disjoint p hp q hq ?_
  rw [← hpw, ← hqw, BitVec.and_assoc, BitVec.and_assoc, BitVec.and_comm p.mask]

/-- Settles O3: the instruction read from a word has that word as its encoding, so its own row covers the word; and the
masks of the rows decide what the decoder looks at. -/
theorem decodeAgreesWithOpcodeTable : Obligations.DecodeAgreesWithOpcodeTable := by
  have hrow : ∀ (w : Word) (i : Instr), decode w = .ok i → opcodeRow i ∈ opcodeTable ∧ (opcodeRow i).covers w = true := by
    intro w i h
    obtain ⟨rfl, hwf⟩ := encodeInvertsDecode w i h
    exact ⟨opcodeRow_mem i, opcodeRow_covers_encode hwf⟩
  refine ⟨fun w => ⟨?covered, ?decodes⟩, fun w p hp q hq => row_eq_of_covers hp hq, hrow⟩
  case covered =>
    rintro ⟨i, h⟩
    exact ⟨opcodeRow i, hrow w i h⟩
  case decodes =>
    rintro ⟨row, hmem, hcovers⟩
    exact decode_of_covers hmem hcovers

/-- Settles O4: eight closed words, evaluated. -/
theorem writtenOutWordsDecode : Obligations.WrittenOutWordsDecode := by
  unfold Obligations.WrittenOutWordsDecode
  decide

end Sys2Proof.Proofs
end

section
/-! All that an instruction can do, said once for the whole instruction list, and what follows from it: which components
change by which instructions (10_state.md R26 to R39), the statements O32, O46 and O47. -/

namespace Sys2Proof.Proofs

open Sys2Proof Sys2Proof.Machine Sys2Proof.Claims

/-! ### Arithmetic as one execution shape -/

/-- The direction of the mnemonic (40_arithmetic.md R140). -/
def arithDirection (op : ArithOp) : Direction := if op.subtracts then .sub else .add

/-- The carry in: CY for ADDC and SUBC, none for ADD and SUB (40_arithmetic.md R143). -/
def arithCarryIn (op : ArithOp) (cy : Bool) : Bool :=
  match op with
  | .add => false
  | .addc => cy
  | .sub => false
  | .subc => cy

theorem exec_arith_reg (op : ArithOp) (r : RegNum) (m : DataAddr) (s : State) :
    exec (op.reg r m) s = arithRM (arithDirection op) r m (arithCarryIn op s.cy) s := by cases op <;> rfl

theorem exec_arith_imm (op : ArithOp) (m : DataAddr) (n : Nibble) (s : State) :
    exec (op.imm m n) s = arithMI (arithDirection op) m n (arithCarryIn op s.cy) s := by cases op <;> rfl

theorem destination_arith_reg (op : ArithOp) (r : RegNum) (m : DataAddr) :
    destination (op.reg r m) = some (regAddr r) := by cases op <;> rfl

theorem destination_arith_imm (op : ArithOp) (m : DataAddr) (n : Nibble) : destination (op.imm m n) = some m := by
  cases op <;> rfl

theorem destination_logic_reg (op : LogicOp) (r : RegNum) (m : DataAddr) :
    destination (op.reg r m) = some (regAddr r) := by cases op <;> rfl

theorem destination_logic_imm (op : LogicOp) (m : DataAddr) (n : Nibble) : destination (op.imm m n) = some m := by
  cases op <;> rfl

theorem isArithmetic_reg (op : ArithOp) (r : RegNum) (m : DataAddr) : IsArithmetic (op.reg r m) :=
  ⟨op, .inl ⟨r, m, rfl⟩⟩

theorem isArithmetic_imm (op : ArithOp) (m : DataAddr) (n : Nibble) : IsArithmetic (op.imm m n) :=
  ⟨op, .inr ⟨m, n, rfl⟩⟩

/-! ### HALT and STOP when they go through -/

/-- HALT and STOP decide on their operand alone: the upper three bits are reserved, b0 is the release condition. -/
theorem nibble_eq_zero_of_condition {c : Nibble} (hbits : conditionBitsZero c = true) (hlow : c.getLsbD 0 = false) :
    c = 0#4 := by
  obtain rfl | rfl := (conditionBitsZero_iff c).mp hbits
  · rfl
  · cases hlow

theorem execHalt_next {c : Nibble} {s t : State} (h : execHalt c s = .next t) :
    t = s.nextPc ∨ ∃ rel, t = s.nextPc.setMode (.halt rel) := by
  unfold execHalt at h
  split at h
  · cases h
  · split at h
    · cases h
      exact .inr ⟨.resetOnly, rfl⟩
    · split at h
      · cases h
        exact .inl rfl
      · cases h
        exact .inr ⟨.p0b0, rfl⟩

theorem execStop_next {c : Nibble} {s t : State} (h : execStop c s = .next t) :
    t = s.nextPc ∨ t = s.nextPc.setMode (.stop .p0b1) ∨
      (c = 0#4 ∧ t = s.initialise.setMode (.stop .resetOnly)) := by
  unfold execStop at h
  split at h
  · cases h
  · next hbits =>
    split at h
    · next hlow =>
      cases h
      exact .inr (.inr ⟨nibble_eq_zero_of_condition (by simpa using hbits) (by simpa using hlow), rfl⟩)
    · split at h
      · cases h
        exact .inl rfl
      · cases h
        exact .inr (.inl rfl)

/-! ### The effect of an instruction -/

/-- What the instruction `i`, started in `s`, can leave behind. -/
inductive Effect (s : State) : Instr → State → Prop where
  /-- Arithmetic with CMP = 0: CY and Z, then the store. -/
  | computed {i d c z v u} (hi : IsArithmetic i) (hd : destination i = some d)
      (hw : memWrite (s.setCarryZero c z) d v = .ok u) : Effect s i u.nextPc
  /-- Arithmetic with CMP = 1: CY and Z alone. -/
  | judged {i c z} (hi : IsArithmetic i) : Effect s i (s.setCarryZero c z).nextPc
  /-- A store at the destination, no flag but by the store. -/
  | stored {i d v u} (hd : destination i = some d) (hw : memWrite s d v = .ok u) : Effect s i u.nextPc
  /-- RORC. -/
  | rotated {r v c} : Effect s (.rorc r) ((s.setReg r v).setCarry c).nextPc
  /-- SKT and SKF. -/
  | tested {i b} (hi : ∃ m n, i = .skt m n ∨ i = .skf m n) : Effect s i (s.clearCmp.skipIf b).nextPc
  /-- The comparisons. -/
  | compared {i b} : Effect s i (s.skipIf b).nextPc
  /-- BR. -/
  | branched {i a} : Effect s i (s.jump a)
  /-- CALL. -/
  | called {a ret target} : Effect s (.call a) ((s.pushReturn ret).jump target)
  /-- RET. -/
  | returned : Effect s .ret s.popReturn
  /-- RETSK. -/
  | returnedSkipping : Effect s .retsk (s.popReturn.setSkip true)
  /-- NOP, and HALT 0001B and STOP 0001B with their release pin high. -/
  | passed {i} : Effect s i s.nextPc
  /-- HALT, and STOP 0001B with its release pin low. -/
  | waiting {i m} (hm : m ≠ .stop .resetOnly) : Effect s i (s.nextPc.setMode m)
  /-- STOP 0000B. -/
  | stopped : Effect s (.stop 0#4) (s.initialise.setMode (.stop .resetOnly))

theorem arithExec_effect {i : Instr} {dir : Direction} {d : DataAddr} {x : AluInput} {c : Bool} {s t : State}
    (hi : IsArithmetic i) (hd : destination i = some d) (h : arithExec dir d x c s = .next t) : Effect s i t := by
  obtain ⟨-, rfl⟩ | ⟨-, u, hu, rfl⟩ := arithExec_next h
  · exact .judged hi
  · exact .computed hi hd hu

theorem storeAt_effect {i : Instr} {d : DataAddr} {v : Nibble} {s t : State} (hd : destination i = some d)
    (h : storeAt s d v = .next t) : Effect s i t := by
  obtain ⟨u, hu, rfl⟩ := storeAt_next h
  exact .stored hd hu

theorem setReg_effect {i : Instr} {r : RegNum} (hd : destination i = some (regAddr r)) (s : State) (v : Nibble) :
    Effect s i (s.setReg r v).nextPc := .stored hd (memWrite_regAddr s r v)

theorem judge_effect {i : Instr} {cond : Nibble → Nibble → Bool} {m : DataAddr} {n : Nibble} {s t : State}
    (hi : ∃ m n, i = .skt m n ∨ i = .skf m n) (h : judge cond m n s = .next t) : Effect s i t := by
  obtain ⟨x, -, hx⟩ := onOk_next h
  cases hx
  exact .tested hi

/-- Every instruction that goes through has one of the effects. -/
theorem exec_effect {i : Instr} {s t : State} (h : exec i s = .next t) : Effect s i t := by
  induction i using instr_families with
  | arithReg op r m =>
    rw [exec_arith_reg] at h
    obtain ⟨x, -, hx⟩ := onOk_next h
    exact arithExec_effect (isArithmetic_reg op r m) (destination_arith_reg op r m) hx
  | arithImm op m n =>
    rw [exec_arith_imm] at h
    obtain ⟨x, -, hx⟩ := onOk_next h
    exact arithExec_effect (isArithmetic_imm op m n) (destination_arith_imm op m n) hx
  | logicReg op r m =>
    rw [exec_logic_reg] at h
    obtain ⟨x, -, hx⟩ := onOk_next h
    cases hx
    exact setReg_effect (destination_logic_reg op r m) s _
  | logicImm op m n =>
    rw [exec_logic_imm] at h
    obtain ⟨x, -, hx⟩ := onOk_next h
    exact storeAt_effect (destination_logic_imm op m n) hx
  | skt m n => exact judge_effect ⟨m, n, .inl rfl⟩ h
  | skf m n => exact judge_effect ⟨m, n, .inr rfl⟩ h
  | compare op m n =>
    rw [exec_compare] at h
    obtain ⟨x, -, hx⟩ := onOk_next h
    cases hx
    exact .compared
  | rorc r =>
    cases h
    exact .rotated
  | ld r m =>
    obtain ⟨v, -, hv⟩ := onOk_next h
    cases hv
    exact setReg_effect rfl s v
  | st m r => exact storeAt_effect rfl h
  | mov m n => exact storeAt_effect rfl h
  | br a =>
    obtain ⟨-, rfl⟩ := execBr_next h
    exact .branched
  | call a =>
    obtain ⟨-, -, rfl⟩ := execCall_next h
    exact .called
  | ret =>
    obtain ⟨-, rfl⟩ := execRet_next h
    exact .returned
  | retsk =>
    obtain ⟨-, rfl⟩ := execRetsk_next h
    exact .returnedSkipping
  | stop c =>
    obtain rfl | rfl | ⟨rfl, rfl⟩ := execStop_next h
    · exact .passed
    · exact .waiting (by decide)
    · exact .stopped
  | halt c =>
    obtain rfl | ⟨rel, rfl⟩ := execHalt_next h
    · exact .passed
    · exact .waiting (by simp)
  | nop =>
    cases h
    exact .passed

/-! ### Frames of the effects -/

/-- Settles O32: of the effects only CALL's writes ASR, and only CALL's, the returns' and STOP 0000B's write the
marker. -/
theorem onlyCallsAndReturnsTouchTheStack : Obligations.OnlyCallsAndReturnsTouchTheStack := by
  intro i s t h
  cases exec_effect h with
  | computed _ _ hw | stored _ hw =>
    obtain ⟨hasr, hdepth, -⟩ := memWrite_controlKept hw
    exact ⟨.inl hasr, .inl hdepth⟩
  | called => exact ⟨.inr ⟨_, rfl⟩, .inr (.inl ⟨_, rfl⟩)⟩
  | returned => exact ⟨.inl rfl, .inr (.inr (.inl rfl))⟩
  | returnedSkipping => exact ⟨.inl rfl, .inr (.inr (.inr (.inl rfl)))⟩
  | stopped => exact ⟨.inl rfl, .inr (.inr (.inr (.inr rfl)))⟩
  | tested | compared => simp
  | judged | rotated | branched | passed | waiting => exact ⟨.inl rfl, .inl rfl⟩

/-- No instruction writes the chip's parameters, the environment or the reset marker (20_memory.md R80). -/
theorem exec_surroundings {i : Instr} {s t : State} (h : exec i s = .next t) :
    t.chip = s.chip ∧ t.env = s.env ∧ t.resetHeld = s.resetHeld := by
  cases exec_effect h with
  | computed _ _ hw | stored _ hw =>
    obtain ⟨-, -, -, hheld, hchip, henv⟩ := memWrite_controlKept hw
    exact ⟨hchip, henv, hheld⟩
  | tested | compared => simp
  | judged | rotated | branched | called | returned | returnedSkipping | passed | waiting | stopped =>
    exact ⟨rfl, rfl, rfl⟩

theorem place_eq_port (m : DataAddr) (p : Port) : place m = .port p ↔
    m = match p with | .p0b => 0x71#7 | .p0c => 0x72#7 | .p0d => 0x73#7 := by
  revert m
  cases p <;> decide

theorem place_eq_bcdNibble (m : DataAddr) : place m = .bcdNibble ↔ m = 0x7E#7 := by
  revert m
  decide

theorem place_eq_psw (m : DataAddr) : place m = .psw ↔ m = 0x7F#7 := by
  revert m
  decide

/-- All that a write to the data memory can do, by address (20_memory.md R67). -/
theorem memWrite_at {s t : State} {d : DataAddr} {v : Nibble} (h : memWrite s d v = .ok t) :
    (∃ r, d = regAddr r ∧ t = s.setReg r v) ∨ (d = 0x71#7 ∧ t = s.writePort .p0b v) ∨
      (d = 0x72#7 ∧ t = s.writePort .p0c v) ∨ (d = 0x73#7 ∧ t = s.writePort .p0d v) ∨
      (d = 0x7E#7 ∧ t = s.setBcdNibble v) ∨ (d = 0x7F#7 ∧ t = s.setPsw v) ∨ (¬ Implemented d ∧ t = s) := by
  obtain ⟨r, hp, ht⟩ | ⟨p, hp, ht⟩ | ⟨hp, ht⟩ | ⟨hp, ht⟩ | ⟨hp, ht⟩ := memWrite_ok h
  · exact .inl ⟨r, (place_eq_ram d r).mp hp, ht⟩
  · have hd := (place_eq_port d p).mp hp
    cases p with
    | p0b => exact .inr (.inl ⟨hd, ht⟩)
    | p0c => exact .inr (.inr (.inl ⟨hd, ht⟩))
    | p0d => exact .inr (.inr (.inr (.inl ⟨hd, ht⟩)))
  · exact .inr (.inr (.inr (.inr (.inl ⟨(place_eq_bcdNibble d).mp hp, ht⟩))))
  · exact .inr (.inr (.inr (.inr (.inr (.inl ⟨(place_eq_psw d).mp hp, ht⟩)))))
  · exact .inr (.inr (.inr (.inr (.inr (.inr ⟨(place_eq_absent d).mp hp, ht⟩)))))

/-- Registers, latches and directions change only at the address `d`, if any. -/
def OnlyPlaceWritten (d : Option DataAddr) (s t : State) : Prop :=
  (∀ k, t.reg k = s.reg k ∨ d = some (regAddr k)) ∧
  ((t.latchB = s.latchB ∧ t.outB = s.outB) ∨ (d = some 0x71#7 ∧ t.outB = true)) ∧
  ((t.latchC = s.latchC ∧ t.outC = s.outC) ∨ (d = some 0x72#7 ∧ t.outC = true)) ∧
  ((t.latchD = s.latchD ∧ t.outD = s.outD) ∨ (d = some 0x73#7 ∧ t.outD = true))

theorem onlyPlaceWritten_of_kept {s t : State} (hregs : RegsKept s t) (hports : PortsKept s t) (d : Option DataAddr) :
    OnlyPlaceWritten d s t := by
  obtain ⟨hlatchB, hlatchC, hlatchD, houtB, houtC, houtD⟩ := hports
  exact ⟨fun k => .inl (hregs k), .inl ⟨hlatchB, houtB⟩, .inl ⟨hlatchC, houtC⟩, .inl ⟨hlatchD, houtD⟩⟩

theorem onlyPlaceWritten_setReg (s : State) (r : RegNum) (v : Nibble) :
    OnlyPlaceWritten (some (regAddr r)) s (s.setReg r v) := by
  refine ⟨fun k => ?_, .inl ⟨rfl, rfl⟩, .inl ⟨rfl, rfl⟩, .inl ⟨rfl, rfl⟩⟩
  by_cases hk : k = r
  · exact .inr (hk ▸ rfl)
  · exact .inl (State.reg_setReg_other s v hk)

theorem memWrite_onlyPlaceWritten {s t : State} {d : DataAddr} {v : Nibble} (h : memWrite s d v = .ok t) :
    OnlyPlaceWritten (some d) s t := by
  obtain ⟨r, rfl, rfl⟩ | ⟨rfl, rfl⟩ | ⟨rfl, rfl⟩ | ⟨rfl, rfl⟩ | ⟨-, rfl⟩ | ⟨-, rfl⟩ | ⟨-, rfl⟩ := memWrite_at h
  · exact onlyPlaceWritten_setReg s r v
  · exact ⟨fun k => .inl rfl, .inr ⟨rfl, rfl⟩, .inl ⟨rfl, rfl⟩, .inl ⟨rfl, rfl⟩⟩
  · exact ⟨fun k => .inl rfl, .inl ⟨rfl, rfl⟩, .inr ⟨rfl, rfl⟩, .inl ⟨rfl, rfl⟩⟩
  · exact ⟨fun k => .inl rfl, .inl ⟨rfl, rfl⟩, .inl ⟨rfl, rfl⟩, .inr ⟨rfl, rfl⟩⟩
  all_goals exact onlyPlaceWritten_of_kept (fun _ => rfl) ⟨rfl, rfl, rfl, rfl, rfl, rfl⟩ _

/-- An instruction is STOP 0000B, which keeps registers and latches and makes every port an input, or writes its
destination only (10_state.md R39, 45_other.md R232). -/
theorem exec_onlyPlaceWritten {i : Instr} {s t : State} (h : exec i s = .next t) :
    OnlyPlaceWritten (destination i) s t ∨
      (IsStopZero i ∧ t = s.initialise.setMode (.stop .resetOnly)) := by
  cases exec_effect h with
  | computed _ hd hw | stored hd hw =>
    have honly := memWrite_onlyPlaceWritten hw
    rw [hd]
    exact .inl honly
  | rotated => exact .inl (onlyPlaceWritten_setReg s _ _)
  | stopped => exact .inr ⟨rfl, rfl⟩
  | tested | compared => exact .inl (onlyPlaceWritten_of_kept (by simp [RegsKept]) (by simp [PortsKept]) _)
  | judged | branched | called | returned | returnedSkipping | passed | waiting =>
    exact .inl (onlyPlaceWritten_of_kept (fun _ => rfl) ⟨rfl, rfl, rfl, rfl, rfl, rfl⟩ _)

/-- Settles O46: the effects write the destination only, and none writes the surroundings. -/
theorem onlyDestinationsChange : Obligations.OnlyDestinationsChange := by
  intro i s t h
  have hsurroundings := exec_surroundings h
  obtain ⟨hregs, hportB, hportC, hportD⟩ | ⟨hstop, rfl⟩ := exec_onlyPlaceWritten h
  · exact ⟨hregs, hportB.imp_right .inl, hportC.imp_right .inl, hportD.imp_right .inl, hsurroundings⟩
  · exact ⟨fun _ => .inl rfl, .inr (.inr ⟨hstop, rfl, rfl⟩), .inr (.inr ⟨hstop, rfl, rfl⟩),
      .inr (.inr ⟨hstop, rfl, rfl⟩), hsurroundings⟩

/-! ### Flags -/

/-- A write to the data memory changes BCD at 7EH alone and the other flags at 7FH alone (10_state.md R29). -/
theorem memWrite_flags {s t : State} {d : DataAddr} {v : Nibble} (h : memWrite s d v = .ok t) :
    (t.bcd = s.bcd ∨ d = 0x7E#7) ∧ ((t.cmp = s.cmp ∧ t.cy = s.cy ∧ t.z = s.z) ∨ d = 0x7F#7) := by
  obtain ⟨r, -, rfl⟩ | ⟨-, rfl⟩ | ⟨-, rfl⟩ | ⟨-, rfl⟩ | ⟨hd, rfl⟩ | ⟨hd, rfl⟩ | ⟨-, rfl⟩ := memWrite_at h
  case inr.inr.inr.inr.inl => exact ⟨.inr hd, .inl ⟨rfl, rfl, rfl⟩⟩
  case inr.inr.inr.inr.inr.inl => exact ⟨.inl rfl, .inr hd⟩
  all_goals exact ⟨.inl rfl, .inl ⟨rfl, rfl, rfl⟩⟩

/-- STOP 0000B initialises every flag (45_other.md R232). -/
theorem exec_stopZero (s : State) : exec (.stop 0#4) s = .next (s.initialise.setMode (.stop .resetOnly)) := rfl

theorem flags_clear_of_stopZero {i : Instr} {s t : State} (hi : IsStopZero i) (h : exec i s = .next t) :
    t.bcd = false ∧ t.cmp = false ∧ t.cy = false ∧ t.z = false := by
  obtain rfl : i = .stop 0#4 := hi
  cases (exec_stopZero s).symm.trans h
  exact ⟨rfl, rfl, rfl, rfl⟩

/-- Effect by effect, which flags an instruction other than STOP 0000B writes (10_state.md R30 to R33, R36). -/
theorem exec_flags_of_not_stopZero {i : Instr} {s t : State} (hi : ¬ IsStopZero i) (h : exec i s = .next t) :
    (t.bcd = s.bcd ∨ destination i = some 0x7E#7) ∧
    (t.cmp = s.cmp ∨ destination i = some 0x7F#7 ∨ ∃ m n, (i = .skt m n ∨ i = .skf m n) ∧ t.cmp = false) ∧
    (t.cy = s.cy ∨ IsArithmetic i ∨ (∃ r, i = .rorc r) ∨ destination i = some 0x7F#7) ∧
    (t.z = s.z ∨ IsArithmetic i ∨ destination i = some 0x7F#7) := by
  cases exec_effect h with
  | computed harith hd hw =>
    obtain ⟨hbcd, hothers⟩ := memWrite_flags hw
    simp only [hd, Option.some.injEq]
    exact ⟨hbcd, hothers.imp (·.1) .inl, .inr (.inl harith), .inr (.inl harith)⟩
  | judged harith => exact ⟨.inl rfl, .inl rfl, .inr (.inl harith), .inr (.inl harith)⟩
  | stored hd hw =>
    obtain ⟨hbcd, ⟨hcmp, hcy, hz⟩ | hpsw⟩ := memWrite_flags hw <;> simp only [hd, Option.some.injEq]
    · exact ⟨hbcd, .inl hcmp, .inl hcy, .inl hz⟩
    · exact ⟨hbcd, .inr (.inl hpsw), .inr (.inr (.inr hpsw)), .inr (.inr hpsw)⟩
  | rotated => exact ⟨.inl rfl, .inl rfl, .inr (.inr (.inl ⟨_, rfl⟩)), .inl rfl⟩
  | tested htest =>
    obtain ⟨m, n, hmn⟩ := htest
    exact ⟨.inl (by simp), .inr (.inr ⟨m, n, hmn, by simp⟩), .inl (by simp), .inl (by simp)⟩
  | stopped => exact absurd rfl hi
  | compared => simp
  | branched | called | returned | returnedSkipping | passed | waiting => exact ⟨.inl rfl, .inl rfl, .inl rfl, .inl rfl⟩

/-- Settles O47: STOP 0000B clears the four flags, and every other instruction writes only those named. -/
theorem flagsChangeOnlyWhereNamed : Obligations.FlagsChangeOnlyWhereNamed := by
  intro i s t h
  by_cases hi : IsStopZero i
  · obtain ⟨hbcd, hcmp, hcy, hz⟩ := flags_clear_of_stopZero hi h
    exact ⟨.inr (.inr ⟨hi, hbcd⟩), .inr (.inr (.inr ⟨hi, hcmp⟩)), .inr (.inr (.inr (.inr ⟨hi, hcy⟩))),
      .inr (.inr (.inr ⟨hi, hz⟩)), fun _ => ⟨hbcd, hcmp, hcy, hz⟩⟩
  · obtain ⟨hbcd, hcmp, hcy, hz⟩ := exec_flags_of_not_stopZero hi h
    exact ⟨hbcd.imp_right .inl, hcmp.imp_right (.imp_right .inl),
      hcy.imp_right (.imp_right (.imp_right .inl)), hz.imp_right (.imp_right .inl), fun hstop => absurd hstop hi⟩

end Sys2Proof.Proofs
end

section
/-! The step of the machine (60_exceptions.md R301): what one step runs and where it stops, and what every step and every
run keeps: the statements O5 to O8, O41 to O44 and O53. -/

namespace Sys2Proof.Proofs

open Sys2Proof Sys2Proof.Machine Sys2Proof.Claims

/-! ### One step in RUN mode with RESET high -/

/-- With RESET high and in RUN mode a step is the instruction cycle, the reset marker cleared (60_exceptions.md R301). -/
theorem step_of_run {s : State} (hreset : resetLevel s = true) (hm : s.mode = .run) :
    step s = thenAdvance (cpuStep (s.setResetHeld false)) := by
  simp [step, evaluate, whileResetHigh, hreset, hm]

theorem cpuStep_of_skip {s : State} (h : s.skip = true) : cpuStep s = .next (s.setSkip false).nextPc := by
  simp [cpuStep, h]

theorem cpuStep_of_decode {s : State} {w : Word} {i : Instr} (hskip : s.skip = false) (hw : fetchWord s = some w)
    (hi : decode w = .ok i) : cpuStep s = exec i s := by
  simp [cpuStep, hskip, hw, hi]

theorem cpuStep_of_reject {s : State} {w : Word} {e : Reject} (hskip : s.skip = false) (hw : fetchWord s = some w)
    (he : decode w = .error e) : cpuStep s = .fault (.illegalInstruction w s.pc) := by
  simp [cpuStep, hskip, hw, he]

theorem cpuStep_of_undefined {s : State} (hskip : s.skip = false) (hw : fetchWord s = none) :
    cpuStep s = .fault (.undefinedProgramWord s.pc) := by
  simp [cpuStep, hskip, hw]

/-- Settles O5: the instruction cycle is the step, and un-skipped it is the decoded instruction. -/
theorem stepRunsDecodedInstruction : Obligations.StepRunsDecodedInstruction := by
  intro s w i hreset hm hskip hw hi
  have hstep : step s = thenAdvance (exec i (s.setResetHeld false)) := by
    rw [step_of_run hreset hm, cpuStep_of_decode (s := s.setResetHeld false) hskip hw hi]
  refine ⟨fun t ht => ?_, fun f hf => ?_⟩
  · rw [hstep, show exec i (s.setResetHeld false) = .next t from ht]
    rfl
  · rw [hstep, show exec i (s.setResetHeld false) = .fault f from hf]
    rfl

/-- Settles O6: the cycle looks at the pending skip before it fetches. -/
theorem pendingSkipMakesSlotNop : Obligations.PendingSkipMakesSlotNop := by
  intro s hreset hm hskip
  rw [step_of_run hreset hm, cpuStep_of_skip (s := s.setResetHeld false) hskip]
  rfl

/-- A word is defined exactly where both its halves are (log entry 2). -/
theorem readWord_eq_none {m : Memory} {a : ProgAddr}
    (h : Memory.read m (2 * a.toNat) = none ∨ Memory.read m (2 * a.toNat + 1) = none) : Memory.readWord m a = none := by
  unfold Memory.readWord
  split
  · simp_all
  · rfl

/-- Settles O53: a word with a missing half has no value, and the cycle stops on such a fetch. -/
theorem undefinedLocationStopsTheStep : Obligations.UndefinedLocationStopsTheStep := by
  intro s hreset hm hskip hread
  have hfetch : fetchWord (s.setResetHeld false) = none := readWord_eq_none hread
  rw [step_of_run hreset hm, cpuStep_of_undefined (s := s.setResetHeld false) hskip hfetch]
  rfl

/-! ### Words that are no instruction -/

theorem decode_of_unassignedOpcode {w : Word}
    (h : opField w ∈ [0b01010#5, 0b01101#5, 0b01110#5, 0b01111#5, 0b10111#5, 0b11010#5]) :
    decode w = .error (.unassignedOpcode (opField w)) := by
  simp only [List.mem_cons, List.not_mem_nil, or_false] at h
  obtain h | h | h | h | h | h := h <;> simp [decode, h]

theorem decode_of_reservedAddress {w : Word} (hop : opField w = 0b01100#5 ∨ opField w = 0b11100#5)
    (haddr : addrBitsZero (addrField w) = false) :
    decode w = .error (.reservedAddressBits (addrField w)) := by
  obtain hop | hop := hop <;> simp [decode, hop, haddr]

/-- The words of operation code 00111 that are instructions: RORC of every register, and seven more
(30_encoding.md R113, R116). -/
theorem word_of_subcode_ok {mid : BitVec 7} {low : Nibble} {i : Instr} (h : decodeSubcode mid low = .ok i) :
    mid = 0b0000111#7 ∨ packWord 0b00111#5 mid low ∈
      [0x38E0#16, 0x39E0#16, 0x3AF0#16, 0x3AF1#16, 0x3BF0#16, 0x3BF1#16, 0x3CF0#16] := by
  unfold decodeSubcode at h
  split at h
  case h_1 => exact .inl rfl
  case h_2 | h_3 | h_6 =>
    split at h
    · next hlow =>
      subst hlow
      exact .inr (by decide)
    · cases h
  case h_4 | h_5 =>
    split at h
    · next hlow =>
      obtain rfl | rfl := (conditionBitsZero_iff low).mp hlow <;> exact .inr (by decide)
    · cases h
  case h_7 => cases h

theorem opcodeAndSubcode_eq (w : Word) : w.extractLsb' 4 12 = opField w ++ midField w := by
  ext k hk
  simp only [opField, midField]
  grind

theorem reservedAddress_eq (w : Word) : (addrField w).extractLsb' 9 2 = w.extractLsb' 9 2 := by
  ext k hk
  simp only [addrField]
  grind

/-- Settles O7: each of the three kinds of word is rejected by the decoder, and the cycle stops on a rejected word. -/
theorem unassignedWordStopsTheStep : Obligations.UnassignedWordStopsTheStep := by
  intro s w hreset hm hskip hw hkind
  have hreject : ∃ e, decode w = .error e := by
    obtain hop | ⟨hop, hmid, hlist⟩ | ⟨hop, haddr⟩ := hkind
    · exact ⟨_, decode_of_unassignedOpcode hop⟩
    · cases hd : decode w with
      | error e => exact ⟨e, rfl⟩
      | ok i =>
        have hop : opField w = 0b00111#5 := hop
        rw [decode_of_subcodeOpcode hop] at hd
        obtain hrorc | hmem := word_of_subcode_ok hd
        · exact absurd (by rw [opcodeAndSubcode_eq, hop, hrorc]; rfl) hmid
        · rw [packWord_of_opField hop] at hmem
          exact absurd hmem hlist
    · refine ⟨_, decode_of_reservedAddress hop ?_⟩
      simpa [addrBitsZero, reservedAddress_eq] using haddr
  obtain ⟨e, he⟩ := hreject
  rw [step_of_run hreset hm, cpuStep_of_reject (s := s.setResetHeld false) hskip hw he]
  rfl

/-! ### What every evaluation keeps -/

/-- The instruction cycle keeps the chip, the environment and the reset marker. -/
theorem cpuStep_surroundings {s t : State} (h : cpuStep s = .next t) :
    t.chip = s.chip ∧ t.env = s.env ∧ t.resetHeld = s.resetHeld := by
  obtain ⟨-, rfl⟩ | ⟨-, w, i, -, -, hexec⟩ := cpuStep_next h
  · exact ⟨rfl, rfl, rfl⟩
  · exact exec_surroundings hexec

theorem whileResetHigh_surroundings {s t : State} (h : whileResetHigh s = .next t) :
    t.chip = s.chip ∧ t.env = s.env ∧ t.resetHeld = s.resetHeld := by
  by_cases hm : s.mode = .run
  · simp only [whileResetHigh, hm] at h
    exact cpuStep_surroundings h
  · obtain ⟨m, rfl, -⟩ := whileResetHigh_standby h hm
    exact ⟨rfl, rfl, rfl⟩

theorem whileResetLow_surroundings (s : State) :
    (whileResetLow s).chip = s.chip ∧ (whileResetLow s).env = s.env ∧ (whileResetLow s).resetHeld = true := by
  unfold whileResetLow
  split
  · next hheld => exact ⟨rfl, rfl, hheld⟩
  · exact ⟨rfl, rfl, rfl⟩

theorem evaluate_chip_env {s t : State} (h : evaluate s = .next t) : t.chip = s.chip ∧ t.env = s.env := by
  obtain ⟨-, rfl⟩ | ⟨-, hhigh⟩ := evaluate_next h
  · obtain ⟨hchip, henv, -⟩ := whileResetLow_surroundings s
    exact ⟨hchip, henv⟩
  · obtain ⟨hchip, henv, -⟩ := whileResetHigh_surroundings hhigh
    exact ⟨hchip, henv⟩

theorem step_chip {s t : State} (h : step s = .next t) : t.chip = s.chip := by
  obtain ⟨u, hu, rfl⟩ := step_next h
  exact (evaluate_chip_env hu).1

theorem step_env {s t : State} (h : step s = .next t) : t.env = s.env.advance := by
  obtain ⟨u, hu, rfl⟩ := step_next h
  exact congrArg Env.advance (evaluate_chip_env hu).2

theorem advance_of_nil {e : Env} (h : e.later = []) : e.advance = { e with tick := e.tick + 1 } := by
  simp [Env.advance, h]

theorem advance_of_cons {e : Env} {x : Ext} {rest : List Ext} (h : e.later = x :: rest) :
    e.advance = { now := x, later := rest, tick := e.tick + 1 } := by
  simp [Env.advance, h]

theorem advance_tick (e : Env) : e.advance.tick = e.tick + 1 := by
  unfold Env.advance
  split <;> rfl

/-- Settles O8: no evaluation touches the environment, so the step moves it on by one. -/
theorem everyStepAdvancesEnvironment : Obligations.EveryStepAdvancesEnvironment := by
  intro s t h
  rw [step_env h]
  refine ⟨advance_tick _, fun hnil => ?_, fun x rest hcons => ?_⟩
  · rw [advance_of_nil hnil]
    exact ⟨rfl, hnil⟩
  · rw [advance_of_cons hcons]
    exact ⟨rfl, rfl⟩

/-! ### Runs -/

theorem runsTo_zero (s : State) : RunsTo 0 s s := rfl

theorem runsTo_succ {n : Nat} {s t : State} : RunsTo (n + 1) s t ↔ ∃ u, step s = .next u ∧ RunsTo n u t := by
  have hcore : Sys2Proof.core.step s = step s := rfl
  simp only [RunsTo, Host.Core.run, hcore]
  cases step s with
  | next u => exact ⟨fun h => ⟨u, rfl, h⟩, fun ⟨v, hv, h⟩ => by cases hv; exact h⟩
  | fault f => exact ⟨nofun, fun ⟨v, hv, _⟩ => nomatch hv⟩
  | refused q => exact ⟨nofun, fun ⟨v, hv, _⟩ => nomatch hv⟩

theorem runsTo_chip {n : Nat} {s t : State} (h : RunsTo n s t) : t.chip = s.chip := by
  induction n generalizing s with
  | zero =>
    cases h
    rfl
  | succ n ih =>
    obtain ⟨u, hu, hrest⟩ := runsTo_succ.mp h
    exact (ih hrest).trans (step_chip hu)

/-- Settles O44: the program memory is one of the chip's parameters, and no step writes those. -/
theorem programMemoryNeverChanges : Obligations.ProgramMemoryNeverChanges := by
  intro n s t h a
  rw [runsTo_chip h]

/-! ### The invariant -/

/-- Settles O41: the reset state names each of these values. -/
theorem resetStateIsWhatProgramsMayAssume : Obligations.ResetStateIsWhatProgramsMayAssume :=
  ⟨rfl, rfl, rfl, rfl, rfl, rfl, rfl, rfl, rfl, rfl, rfl⟩

theorem cleared_reset : Cleared State.reset := ⟨rfl, rfl, rfl, rfl, rfl, rfl, rfl, rfl, rfl, rfl⟩

/-- Settles O42: no program is placed, the mode is RUN, and everything is clear. -/
theorem invariantHoldsAtReset : Obligations.InvariantHoldsAtReset :=
  ⟨Memory.wf_reset, fun _ => rfl, fun _ => cleared_reset, fun _ => ⟨rfl, cleared_reset⟩⟩

/-- What the invariant says of the standby modes: no skip is pending, and STOP 0000B left everything clear. -/
def StandbyInv (s : State) : Prop := (s.mode ≠ .run → s.skip = false) ∧ (s.mode = .stop .resetOnly → Cleared s)

/-- In mode RUN there is nothing to say of standby. -/
theorem standbyInv_of_run {s : State} (hm : s.mode = .run) : StandbyInv s :=
  ⟨fun hne => absurd hm hne, fun hstop => nomatch hm.symm.trans hstop⟩

theorem standbyInv_initialise (s : State) : StandbyInv (s.initialise.setMode (.stop .resetOnly)) :=
  ⟨fun _ => rfl, fun _ => ⟨rfl, rfl, rfl, rfl, rfl, rfl, rfl, rfl, rfl, rfl⟩⟩

/-- An instruction enters standby only with the skip flag it started with, which is clear where it runs
(45_other.md R231, R232). -/
theorem exec_standbyInv {i : Instr} {s t : State} (hrun : s.mode = .run) (hskip : s.skip = false)
    (h : exec i s = .next t) : StandbyInv t := by
  cases exec_effect h with
  | waiting hm => exact ⟨fun _ => hskip, fun hstop => absurd hstop hm⟩
  | stopped => exact standbyInv_initialise s
  | computed _ _ hw | stored _ hw => exact standbyInv_of_run ((memWrite_mode hw).trans hrun)
  | tested | compared => exact standbyInv_of_run (by simpa using hrun)
  | judged | rotated | branched | called | returned | returnedSkipping | passed => exact standbyInv_of_run hrun

theorem cpuStep_standbyInv {s t : State} (hrun : s.mode = .run) (h : cpuStep s = .next t) : StandbyInv t := by
  obtain ⟨-, rfl⟩ | ⟨hskip, w, i, -, -, hexec⟩ := cpuStep_next h
  · exact standbyInv_of_run hrun
  · exact exec_standbyInv hrun hskip hexec

theorem whileResetHigh_standbyInv {s t : State} (hs : StandbyInv s) (h : whileResetHigh s = .next t) : StandbyInv t := by
  by_cases hm : s.mode = .run
  · simp only [whileResetHigh, hm] at h
    exact cpuStep_standbyInv hm h
  · obtain ⟨m, rfl, rfl | ⟨rfl, -⟩⟩ := whileResetHigh_standby h hm
    · exact hs
    · exact standbyInv_of_run rfl

/-- The reset event clears the machine and puts it in mode RUN (70_reset_and_hazards.md R320). -/
theorem cleared_resetEvent (s : State) : Cleared ((resetEvent s).setResetHeld true) :=
  ⟨rfl, rfl, rfl, rfl, rfl, rfl, rfl, rfl, rfl, rfl⟩

theorem inv_iff (s : State) : Machine.Inv s ↔
    Memory.wf s.chip.rom = true ∧ StandbyInv s ∧ (s.resetHeld = true → s.mode = .run ∧ Cleared s) := by
  simp only [Machine.Inv, StandbyInv, and_assoc]

theorem evaluate_inv {s t : State} (hs : Machine.Inv s) (h : evaluate s = .next t) : Machine.Inv t := by
  have hchip := (evaluate_chip_env h).1
  obtain ⟨hrom, hstandby, -⟩ := (inv_iff s).mp hs
  obtain ⟨-, rfl⟩ | ⟨-, hhigh⟩ := evaluate_next h
  · unfold whileResetLow
    split
    · exact hs
    · exact (inv_iff _).mpr ⟨hrom, standbyInv_of_run rfl, fun _ => ⟨rfl, cleared_resetEvent s⟩⟩
  · obtain ⟨-, -, hheld⟩ := whileResetHigh_surroundings hhigh
    refine (inv_iff t).mpr ⟨hchip ▸ hrom, whileResetHigh_standbyInv (s := s.setResetHeld false) hstandby hhigh,
      fun htrue => ?_⟩
    exact nomatch hheld.symm.trans htrue

/-- Settles O43: an evaluation keeps the invariant, RESET low by the reset event, RESET high by the instruction or the
standby mode; and the environment's move touches none of it. -/
theorem everyStepKeepsInvariant : Obligations.EveryStepKeepsInvariant := by
  intro s t hs h
  obtain ⟨u, hu, rfl⟩ := step_next h
  change Machine.Inv u
  exact evaluate_inv hs hu

end Sys2Proof.Proofs
end

section
/-! The data memory and the pins (20_memory.md R64 to R67, R74; 60_exceptions.md R284 to R289): reads and writes place by
place, a read after a write, and the levels of the pins: the statements O9 to O12. -/

namespace Sys2Proof.Proofs

open Sys2Proof Sys2Proof.Machine Sys2Proof.Claims

/-! ### Reads by place -/

@[simp] theorem memRead_portB (s : State) : memRead s 0x71#7 = .ok (readPort s .p0b) := by simp [memRead]

@[simp] theorem memRead_portC (s : State) : memRead s 0x72#7 = .ok (readPort s .p0c) := by simp [memRead]

@[simp] theorem memRead_portD (s : State) : memRead s 0x73#7 = .ok (readPort s .p0d) := by simp [memRead]

@[simp] theorem memRead_bcdNibble (s : State) : memRead s 0x7E#7 = .ok (bcdNibble s) := by simp [memRead]

@[simp] theorem memRead_psw (s : State) : memRead s 0x7F#7 = .ok (pswNibble s) := by simp [memRead]

theorem memRead_of_not_implemented {m : DataAddr} (hm : ¬ Implemented m) (s : State) : memRead s m = readAbsent s m := by
  simp only [memRead, (place_eq_absent m).mpr hm]

theorem memWrite_of_not_implemented {m : DataAddr} (hm : ¬ Implemented m) (s : State) (v : Nibble) :
    memWrite s m v = writeAbsent s m := by
  simp only [memWrite, (place_eq_absent m).mpr hm]

/-- Settles O9: `memRead` place by place, each nibble put together from its four bits. -/
theorem dataReadFollowsMap : Obligations.DataReadFollowsMap := by
  intro s
  refine ⟨memRead_regAddr s, ⟨_, memRead_portB s, ?_⟩, ⟨_, memRead_portC s, ?_⟩, ⟨_, memRead_portD s, ?_⟩,
    ⟨_, memRead_bcdNibble s, ?_⟩, ⟨_, memRead_psw s, ?_⟩, fun m hm => ?absent⟩
  case absent =>
    rw [memRead_of_not_implemented hm]
    refine ⟨fun hpolicy => ?_, fun hpolicy => ?_, fun hpolicy => ⟨Config.absentRead s.env.tick m, ?_⟩⟩ <;>
      simp [readAbsent, hpolicy]
  all_goals simp [readPort, bcdNibble, pswNibble]

/-- Settles O10: a described address takes the write with the frame of `Stored`; elsewhere the policy decides. -/
theorem dataWriteFollowsMap : Obligations.DataWriteFollowsMap := by
  intro s m v
  refine ⟨fun hm => ?described, fun hm hpolicy => ?stops, fun hm hpolicy => ?void⟩
  case described =>
    obtain ⟨a, ha⟩ := memRead_of_implemented_or_policy (s := s) (.inl hm)
    obtain ⟨t, ht⟩ := memWrite_of_memRead ha s rfl v
    obtain ⟨hpc, -, -, hskip, -⟩ := memWrite_frame ht
    exact ⟨t, ht, memWrite_stored ht, memWrite_controlKept ht, hpc, hskip⟩
  case stops => simp [memWrite_of_not_implemented hm, writeAbsent, hpolicy]
  case void =>
    rw [memWrite_of_not_implemented hm, writeAbsent]
    split <;> simp_all

/-! ### Pins -/

/-- The chip's drive by the port's kind of output (60_exceptions.md R286, R287). -/
theorem pinOut_eq (s : State) (p : Pin) :
    pinOut s p = if portOf p = .p0b then openDrain s.outB (latchBit s p)
      else pushPull (outMode s (portOf p)) (latchBit s p) := by
  cases p <;> rfl

theorem pinLevel_of_hiZ {s : State} {p : Pin} (h : pinOut s p = .hiZ) : pinLevel s p = wireLevel s p := by
  simp only [pinLevel, h]

theorem pinLevel_of_low {s : State} {p : Pin} (h : pinOut s p = .low) : pinLevel s p = false := by
  simp only [pinLevel, h]

theorem pinLevel_of_high {s : State} {p : Pin} (h : pinOut s p = .high) : pinLevel s p = true := by
  simp only [pinLevel, h]

/-- A pin of a port in input mode is not driven (60_exceptions.md R285). -/
theorem pinOut_of_input {s : State} {p : Pin} (h : outMode s (portOf p) = false) : pinOut s p = .hiZ := by
  rw [pinOut_eq]
  split
  · next hB =>
    rw [hB] at h
    have hout : s.outB = false := h
    simp [openDrain, hout]
  · simp [pushPull, h]

/-- Open drain: an output pin of port 0B is driven low by a 0 and not at all by a 1 (60_exceptions.md R286). -/
theorem pinOut_of_openDrain {s : State} {p : Pin} (hB : portOf p = .p0b) (hout : s.outB = true) :
    pinOut s p = if latchBit s p then .hiZ else .low := by
  rw [pinOut_eq, if_pos hB]
  cases latchBit s p <;> simp [openDrain, hout]

/-- Push-pull: an output pin of ports 0C and 0D is driven to its latch (60_exceptions.md R287). -/
theorem pinOut_of_pushPull {s : State} {p : Pin} (hB : portOf p ≠ .p0b) (hout : outMode s (portOf p) = true) :
    pinOut s p = if latchBit s p then .high else .low := by
  rw [pinOut_eq, if_neg hB]
  simp [pushPull, hout]

/-- An open-drain output shows the wire under its latch (60_exceptions.md R286, R288). -/
theorem pinLevel_of_openDrain {s : State} {p : Pin} (hB : portOf p = .p0b) (hout : s.outB = true) :
    pinLevel s p = (latchBit s p && wireLevel s p) := by
  have hdrive := pinOut_of_openDrain hB hout
  cases hl : latchBit s p <;> simp only [hl, if_true, Bool.false_eq_true, if_false] at hdrive
  · simp [pinLevel_of_low hdrive]
  · simp [pinLevel_of_hiZ hdrive]

/-- A push-pull output shows its latch whatever the wire does (60_exceptions.md R287, R288; log entry 22). -/
theorem pinLevel_of_pushPull {s : State} {p : Pin} (hB : portOf p ≠ .p0b) (hout : outMode s (portOf p) = true) :
    pinLevel s p = latchBit s p := by
  have hdrive := pinOut_of_pushPull hB hout
  cases hl : latchBit s p <;> simp only [hl, if_true, Bool.false_eq_true, if_false] at hdrive
  · exact pinLevel_of_low hdrive
  · exact pinLevel_of_high hdrive

theorem pinByDirectionAndLatch (s : State) (p : Pin) : PinByDirectionAndLatch s p := by
  refine ⟨fun h => ⟨pinOut_of_input h, pinLevel_of_hiZ (pinOut_of_input h)⟩, fun hB hout hl => ?low,
    fun hB hout hl => ?hiZ, fun hB hout => ⟨pinOut_of_pushPull hB hout, pinLevel_of_pushPull hB hout⟩,
    fun h => ?extLow, fun h => ?extHigh, fun h hpull => ?pulled⟩
  case low | hiZ =>
    have hdrive := pinOut_of_openDrain hB hout
    have hlevel := pinLevel_of_openDrain hB hout
    simp only [hl] at hdrive hlevel
    exact ⟨hdrive, hlevel⟩
  case extLow | extHigh => simp only [wireLevel, h]
  case pulled => simp only [wireLevel, h, hpull, if_true]

/-- Settles O12: the drive decides the level where there is one, and the wire elsewhere; and the RESET pin has no driver
on the chip. -/
theorem pinDriveAndLevel : Obligations.PinDriveAndLevel := by
  intro s
  refine ⟨pinByDirectionAndLatch s, fun h => ?_, fun h => ?_, fun h hpull => ?_⟩
  · simp only [resetLevel, h]
  · simp only [resetLevel, h]
  · simp only [resetLevel, h, hpull, if_true]

/-! ### Reads after writes -/

theorem memRead_setBcdNibble (s : State) (v : Nibble) :
    memRead (s.setBcdNibble v) 0x7E#7 = .ok (v &&& 0b0001#4) := by
  have hbits : ∀ v : Nibble, nibbleOf false false false (v.getLsbD 0) = v &&& 0b0001#4 := by decide
  rw [memRead_bcdNibble, bcdNibble, State.setBcdNibble_bcd, hbits]

theorem memRead_setPsw (s : State) (v : Nibble) : memRead (s.setPsw v) 0x7F#7 = .ok (v &&& 0b1110#4) := by
  have hbits : ∀ v : Nibble, nibbleOf (v.getLsbD 3) (v.getLsbD 2) (v.getLsbD 1) false = v &&& 0b1110#4 := by decide
  rw [memRead_psw, pswNibble, State.setPsw_cmp, State.setPsw_cy, State.setPsw_z, hbits]

/-- A nibble is put together from its own bits. -/
theorem nibbleOf_bits (v : Nibble) : nibbleOf (v.getLsbD 3) (v.getLsbD 2) (v.getLsbD 1) (v.getLsbD 0) = v := by
  revert v
  decide

/-- After a write to port 0C or 0D each pin is the bit written (60_exceptions.md R287). -/
theorem pinLevel_writePort_pushPull (s : State) (v : Nibble) {p : Pin} {q : Port} (hq : q ≠ .p0b) (hp : portOf p = q) :
    pinLevel (s.writePort q v) p = v.getLsbD (bitOf p) := by
  cases q with
  | p0b => exact absurd rfl hq
  | p0c | p0d =>
    rw [pinLevel_of_pushPull (by simp [hp]) (by rw [hp]; rfl), latchBit, hp]
    rfl

theorem memRead_writePortC (s : State) (v : Nibble) : memRead (s.writePort .p0c v) 0x72#7 = .ok v := by
  have hlevel := fun p => pinLevel_writePort_pushPull s v (p := p) (q := .p0c) (by decide)
  rw [memRead_portC, readPort, hlevel _ rfl, hlevel _ rfl, hlevel _ rfl, hlevel _ rfl]
  exact congrArg Except.ok (nibbleOf_bits v)

theorem memRead_writePortD (s : State) (v : Nibble) : memRead (s.writePort .p0d v) 0x73#7 = .ok v := by
  have hlevel := fun p => pinLevel_writePort_pushPull s v (p := p) (q := .p0d) (by decide)
  rw [memRead_portD, readPort, hlevel _ rfl, hlevel _ rfl, hlevel _ rfl, hlevel _ rfl]
  exact congrArg Except.ok (nibbleOf_bits v)

/-- After a write to port 0B each pin is the wire under the bit written (60_exceptions.md R286). -/
theorem pinLevel_writePortB (s : State) (v : Nibble) {p : Pin} (hp : portOf p = .p0b) :
    pinLevel (s.writePort .p0b v) p = (v.getLsbD (bitOf p) && wireLevel s p) := by
  rw [pinLevel_of_openDrain hp rfl]
  cases p <;> simp_all [latchBit, portOf, bitOf, wireLevel]

/-- Settles O11: the place written is the place read. -/
theorem readAfterWrite : Obligations.ReadAfterWrite := by
  intro s t m v h
  refine ⟨fun hm => ?ram, fun hm => ?bcd, fun hm => ?psw, fun hm => ?portC, fun hm => ?portD, fun hm => ?portB⟩
  case ram =>
    have hr : ∀ m : DataAddr, m.toNat ≤ 0x0F → m = regAddr (m.extractLsb' 0 4) := by decide
    rw [hr m hm] at h ⊢
    cases (memWrite_regAddr s _ v).symm.trans h
    simp
  all_goals
    subst hm
    simp only [memWrite_portB, memWrite_portC, memWrite_portD, memWrite_bcdNibble, memWrite_psw,
      Except.ok.injEq] at h
    subst h
  case bcd => exact memRead_setBcdNibble s v
  case psw => exact memRead_setPsw s v
  case portC => exact memRead_writePortC s v
  case portD => exact memRead_writePortD s v
  case portB =>
    refine ⟨_, memRead_portB _, nibbleOf_bit3 .., ?_, ?_, ?_⟩
    · exact (nibbleOf_bit2 ..).trans (pinLevel_writePortB s v rfl)
    · exact (nibbleOf_bit1 ..).trans (pinLevel_writePortB s v rfl)
    · exact (nibbleOf_bit0 ..).trans (pinLevel_writePortB s v rfl)

end Sys2Proof.Proofs
end

section
/-! Arithmetic (40_arithmetic.md R140 to R156): the ALU against the exact integer result, in binary by arithmetic and in
decimal row by row of Table 5-2; the two forms with CMP = 0 and CMP = 1: the statements O13 to O17. -/

namespace Sys2Proof.Proofs

open Sys2Proof Sys2Proof.Machine Sys2Proof.Claims

/-! ### The ALU -/

theorem rawResult_eq_raw (op : ArithOp) (a b : Nibble) (cy : Bool) :
    rawResult (arithDirection op) a b (arithCarryIn op cy) = op.raw a b cy := by
  cases op <;> cases cy <;> simp [rawResult, arithDirection, arithCarryIn, ArithOp.raw, ArithOp.subtracts]

theorem binaryResult_binaryOut (t : Int) : BinaryResult t (binaryOut t).carry (binaryOut t).value := by
  refine ⟨by simp [binaryOut], ?_⟩
  simp only [binaryOut, BitVec.toNat_ofInt]
  omega

/-- Rows t = 0 to 31 of Table 5-2 (40_arithmetic.md R145, R146). -/
theorem decimalAddTable_rows : ∀ k : Fin 32,
    DecimalResult false (k.val : Int) (decimalOut .add k.val).carry (decimalOut .add k.val).value := by
  intro k
  refine ⟨?_, ?_, ?_, ?_, ?_, ?_, ?_⟩ <;> revert k <;> decide

/-- Rows t = -16 to 15 of Table 5-2 (40_arithmetic.md R145, R146). -/
theorem decimalSubTable_rows : ∀ k : Fin 32,
    DecimalResult true (k.val - 16 : Int) (decimalOut .sub (k.val - 16)).carry (decimalOut .sub (k.val - 16)).value := by
  intro k
  refine ⟨?_, ?_, ?_, ?_, ?_, ?_, ?_⟩ <;> revert k <;> decide

/-- Every pair of operands and carry in has its row in Table 5-2 (93_implementation_defined.md U9). -/
theorem decimalResult_decimalOut (dir : Direction) (a b : Nibble) (c : Bool) :
    DecimalResult (dir == .sub) (rawResult dir a b c) (decimalOut dir (rawResult dir a b c)).carry
      (decimalOut dir (rawResult dir a b c)).value := by
  have ha := a.isLt
  have hb := b.isLt
  have hc := c.toNat_le
  cases dir with
  | add =>
    have hrow := decimalAddTable_rows ⟨a.toNat + b.toNat + c.toNat, by omega⟩
    have ht : ((a.toNat + b.toNat + c.toNat : Nat) : Int) = rawResult .add a b c := by simp [rawResult]
    simp only [ht] at hrow
    exact hrow
  | sub =>
    have hrow := decimalSubTable_rows ⟨a.toNat + 16 - b.toNat - c.toNat, by omega⟩
    have ht : ((a.toNat + 16 - b.toNat - c.toNat : Nat) : Int) - 16 = rawResult .sub a b c := by
      simp only [rawResult]
      omega
    simp only [ht] at hrow
    exact hrow

theorem subtracts_eq (op : ArithOp) : (arithDirection op == .sub) = op.subtracts := by cases op <;> rfl

/-- What the ALU answers for an arithmetic mnemonic, in the mode the BCD flag selects. -/
def arithOut (op : ArithOp) (a b : Nibble) (s : State) : AluOut :=
  aluOut s.bcd (arithDirection op) a b (arithCarryIn op s.cy)

/-- The ALU's answer is the one the rules give for the exact result (40_arithmetic.md R143 to R146). -/
theorem arithResult_arithOut (op : ArithOp) (a b : Nibble) (s : State) :
    ArithResult s.bcd op (op.raw a b s.cy) (arithOut op a b s).carry (arithOut op a b s).value := by
  rw [← rawResult_eq_raw]
  unfold ArithResult arithOut aluOut
  cases s.bcd with
  | true => exact subtracts_eq op ▸ decimalResult_decimalOut _ a b _
  | false => exact binaryResult_binaryOut _

/-! ### The execution shape -/

/-- The state with CY and Z as the operation leaves them (40_arithmetic.md R147). -/
def withArithFlags (op : ArithOp) (a b : Nibble) (s : State) : State :=
  s.setCarryZero (arithOut op a b s).carry (zeroAfter s.cmp s.z (arithOut op a b s).value)

theorem exec_arith_reg_of_memRead {s : State} {m : DataAddr} {b : Nibble} (h : memRead s m = .ok b) (op : ArithOp)
    (r : RegNum) : exec (op.reg r m) s = if s.cmp then .next (withArithFlags op (s.reg r) b s).nextPc
      else .next ((withArithFlags op (s.reg r) b s).setReg r (arithOut op (s.reg r) b s).value).nextPc := by
  rw [exec_arith_reg, arithRM, operandsRM_of_memRead h, onOk_ok, arithExec,
    storeAt_of_memWrite (memWrite_regAddr _ r _)]
  rfl

theorem exec_arith_imm_of_memRead {s : State} {m : DataAddr} {a : Nibble} (h : memRead s m = .ok a) (op : ArithOp)
    (n : Nibble) : exec (op.imm m n) s = if s.cmp then .next (withArithFlags op a n s).nextPc
      else storeAt (withArithFlags op a n s) m (arithOut op a n s).value := by
  rw [exec_arith_imm, arithMI, operandsMI_of_memRead h, onOk_ok, arithExec]
  rfl

/-- With CMP = 0 Z tells whether the digit is 0 (10_state.md R33). -/
theorem zeroAfter_of_store (z : Bool) (v : Nibble) : zeroAfter false z v = decide (v = 0#4) := by
  by_cases h : v = 0#4 <;> simp [zeroAfter, h]

/-- With CMP = 1 a digit 0 holds Z and any other clears it (10_state.md R33). -/
theorem zeroAfter_of_compare (z : Bool) (v : Nibble) : zeroAfter true z v = true ↔ z = true ∧ v = 0#4 := by
  by_cases h : v = 0#4 <;> simp [zeroAfter, h]

theorem withArithFlags_of_store {s : State} (hcmp : s.cmp = false) (op : ArithOp) (a b : Nibble) :
    withArithFlags op a b s =
      s.setCarryZero (arithOut op a b s).carry (decide ((arithOut op a b s).value = 0#4)) := by
  rw [withArithFlags, hcmp, zeroAfter_of_store]

/-- Settles O13: the ALU's digit goes to the register after CY and Z. -/
theorem arithmeticRegisterForms : Obligations.ArithmeticRegisterForms := by
  intro op r m s b hb hcmp
  have hexec := exec_arith_reg_of_memRead hb op r
  rw [hcmp, if_neg Bool.false_ne_true, withArithFlags_of_store hcmp] at hexec
  refine ⟨_, _, _, arithResult_arithOut op (s.reg r) b s, hexec, ?written, rfl, ?z, rfl, rfl, ?ports, ?control, ?pc⟩
  case written => exact regWritten_setReg (s.setCarryZero _ _) r _
  case z => simp
  case ports => simp [PortsKept]
  case control => simp [ControlKept]
  case pc => simp [Advanced]

/-- Settles O14: the store is the last thing, on the state that has CY and Z. -/
theorem arithmeticMemoryForms : Obligations.ArithmeticMemoryForms := by
  intro op m n s a ha hcmp
  have hexec := exec_arith_imm_of_memRead ha op n
  rw [hcmp, if_neg Bool.false_ne_true, withArithFlags_of_store hcmp] at hexec
  obtain ⟨u, hu⟩ := memWrite_of_memRead ha
    (s.setCarryZero (arithOut op a n s).carry (decide ((arithOut op a n s).value = 0#4))) rfl (arithOut op a n s).value
  rw [storeAt_of_memWrite hu] at hexec
  refine ⟨_, _, _, arithResult_arithOut op a n s, hexec, ?stored, ?control, ?pc⟩
  case stored => exact (stored_nextPc ..).mpr (memWrite_stored hu)
  case control => exact (memWrite_controlKept hu :)
  case pc => exact (memWrite_advanced hu :)

/-- What is left of an operation with CMP = 1: CY and Z, and the next pc. -/
theorem withArithFlags_compare {s : State} (hcmp : s.cmp = true) (op : ArithOp) (a b : Nibble) {t : State}
    (ht : t = (withArithFlags op a b s).nextPc) :
    t.cy = (arithOut op a b s).carry ∧ (t.z = true ↔ s.z = true ∧ (arithOut op a b s).value = 0#4) ∧ t.bcd = s.bcd ∧
      t.cmp = true ∧ RegsKept s t ∧ PortsKept s t ∧ ControlKept s t ∧ Advanced s t := by
  subst ht
  refine ⟨rfl, ?z, rfl, hcmp, fun _ => rfl, ?ports, ?control, ?pc⟩
  case z => simp [withArithFlags, hcmp, zeroAfter_of_compare]
  case ports => simp [withArithFlags, PortsKept]
  case control => simp [withArithFlags, ControlKept]
  case pc => simp [withArithFlags, Advanced]

/-- Settles O15: with CMP = 1 both forms stop short of the store. -/
theorem compareModeStoresNothing : Obligations.CompareModeStoresNothing := by
  intro op r m n s v hv hcmp
  have hreg := exec_arith_reg_of_memRead hv op r
  have himm := exec_arith_imm_of_memRead hv op n
  rw [hcmp, if_pos rfl] at hreg himm
  exact ⟨⟨_, _, _, arithResult_arithOut op (s.reg r) v s, hreg, withArithFlags_compare hcmp op _ _ rfl⟩,
    ⟨_, _, _, arithResult_arithOut op v n s, himm, withArithFlags_compare hcmp op _ _ rfl⟩⟩

/-- Settles O16: the memory form at 7FH and at 7EH, where the store overrides or leaves CY and Z. -/
theorem arithmeticOnPswStoresTheResult : Obligations.ArithmeticOnPswStoresTheResult := by
  intro op n s hcmp
  obtain ⟨cy, res, t, hres, hexec, ⟨-, -, -, -, -, hpsw, -⟩, -⟩ :=
    arithmeticMemoryForms op 0x7F#7 n s _ (memRead_psw s) hcmp
  obtain ⟨cy', res', t', hres', hexec', ⟨-, -, -, -, hbcd, -⟩, -⟩ :=
    arithmeticMemoryForms op 0x7E#7 n s _ (memRead_bcdNibble s) hcmp
  obtain ⟨hcmp1, hcy1, hz1, hbcd1, -⟩ := hpsw rfl
  obtain ⟨hbcd2, hcmp2, hcy2, hz2, -⟩ := hbcd rfl
  exact ⟨⟨_, cy, res, t, memRead_psw s, hres, hexec, hcmp1, hcy1, hz1, hbcd1⟩,
    ⟨_, cy', res', t', memRead_bcdNibble s, hres', hexec', hbcd2, hcmp2.trans hcmp, hcy2, by simp [hz2]⟩⟩

/-! ### Left rotation -/

/-- The bits of a nibble doubled with a carry in (43_rotate_transfer.md R202). -/
theorem aluOut_double (v : Nibble) (c : Bool) :
    (aluOut false .add v v c).value = v.extractLsb' 0 3 ++ BitVec.ofBool c ∧
      (aluOut false .add v v c).carry = v.getLsbD 3 := by
  revert v c
  decide

/-- Settles O17: in binary mode the sum of a register with itself and CY is its bits one place up. -/
theorem addcToItselfRotatesLeft : Obligations.AddcToItselfRotatesLeft := by
  intro r s hbcd hcmp
  have hexec := exec_arith_reg_of_memRead (memRead_regAddr s r) .addc r
  rw [hcmp, if_neg Bool.false_ne_true] at hexec
  obtain ⟨hvalue, hcarry⟩ := aluOut_double (s.reg r) s.cy
  have hout : arithOut .addc (s.reg r) (s.reg r) s = aluOut false .add (s.reg r) (s.reg r) s.cy := by
    rw [arithOut, hbcd]
    rfl
  refine ⟨_, hexec, ?_⟩
  simp only [State.nextPc_reg, State.reg_setReg_same, State.nextPc_cy, State.setReg_cy, withArithFlags,
    State.setCarryZero_cy, hout, hvalue, hcarry, BitVec.getLsbD_append, BitVec.getLsbD_extractLsb']
  simp

end Sys2Proof.Proofs
end

section
/-! Read-modify-write on a port (20_memory.md R75), the bit tests (42_judge_compare.md R181, R182) and the loop of RORC
(43_rotate_transfer.md R201): the statements O20, O21 and O24. -/

namespace Sys2Proof.Proofs

open Sys2Proof Sys2Proof.Machine Sys2Proof.Claims

/-! ### Read-modify-write on a port -/

/-- A logical instruction on a port writes the port with the operation on its pins (20_memory.md R75). -/
theorem exec_logic_imm_port {s : State} {m : DataAddr} {p : Port} (hp : place m = .port p) (op : LogicOp) (n : Nibble) :
    exec (op.imm m n) s = .next (s.writePort p (logicFn op (readPort s p) n)).nextPc := by
  have hread : memRead s m = .ok (readPort s p) := by simp only [memRead, hp]
  have hwrite : ∀ v, memWrite s m v = .ok (s.writePort p v) := fun v => by simp only [memWrite, hp]
  rw [exec_logic_imm, logicMI_of_memRead hread, storeAt_of_memWrite (hwrite _)]

/-- The bits of the result stand on the bits of the operands. -/
theorem getLsbD_logicFn (op : LogicOp) (a n : Nibble) {k : Nat} (hk : k < 4) :
    (logicFn op a n).getLsbD k = op.bit (a.getLsbD k) (n.getLsbD k) := logicResult_logicFn op a n k hk

/-- Port 0B keeps the three low bits of what is written (20_memory.md R67). -/
theorem getLsbD_lowThree (v : Nibble) {k : Nat} (hk : k < 3) : (v.extractLsb' 0 3).getLsbD k = v.getLsbD k := by
  simp [hk]

/-- Settles O20: the port is written with the operation on the nibble of its pins. -/
theorem portReadModifyWriteLoadsThePins : Obligations.PortReadModifyWriteLoadsThePins := by
  intro op n s
  refine ⟨⟨_, exec_logic_imm_port place_portB op n, rfl, ?_, ?_, ?_⟩,
    ⟨_, exec_logic_imm_port place_portC op n, rfl, ?_, ?_, ?_, ?_⟩,
    ⟨_, exec_logic_imm_port place_portD op n, rfl, ?_, ?_, ?_, ?_⟩⟩
  all_goals
    simp only [State.nextPc_latchB, State.nextPc_latchC, State.nextPc_latchD, State.writePort_p0b_latchB,
      State.writePort_p0c_latchC, State.writePort_p0d_latchD]
  case refine_1 | refine_2 | refine_3 =>
    rw [getLsbD_lowThree _ (by decide), getLsbD_logicFn _ _ _ (by decide)]
    simp only [readPort, nibbleOf_bit0, nibbleOf_bit1, nibbleOf_bit2]
  all_goals
    rw [getLsbD_logicFn _ _ _ (by decide)]
    simp only [readPort, nibbleOf_bit0, nibbleOf_bit1, nibbleOf_bit2, nibbleOf_bit3]

/-! ### Bit tests -/

/-- SKT's condition bit by bit (42_judge_compare.md R181). -/
theorem allTrue_iff (v n : Nibble) : allTrue v n = true ↔ ∀ k, k < 4 → n.getLsbD k = true → v.getLsbD k = true := by
  revert v n
  decide

/-- SKF's condition bit by bit (42_judge_compare.md R182). -/
theorem allFalse_iff (v n : Nibble) : allFalse v n = true ↔ ∀ k, k < 4 → n.getLsbD k = true → v.getLsbD k = false := by
  revert v n
  decide

theorem judge_of_memRead {s : State} {m : DataAddr} {v : Nibble} (h : memRead s m = .ok v)
    (cond : Nibble → Nibble → Bool) (n : Nibble) :
    judge cond m n s = .next (s.clearCmp.skipIf (cond v n)).nextPc := by
  rw [judge, operandsMI_of_memRead h, onOk_ok]

/-- A bit test clears CMP, decides the skip, and changes nothing else (42_judge_compare.md R180). -/
theorem skipIf_clearCmp_frame (s : State) {c : Bool} {cond : Prop} (h : c = true ↔ cond) {t : State}
    (ht : t = (s.clearCmp.skipIf c).nextPc) :
    t.cmp = false ∧ t.bcd = s.bcd ∧ t.cy = s.cy ∧ t.z = s.z ∧ AdvancedSkipping s t cond ∧ RegsKept s t ∧
      PortsKept s t ∧ ControlKept s t := by
  subst ht
  refine ⟨by simp, by simp, by simp, by simp, advancedSkipping_skipIf s.clearCmp h, ?regs, ?ports, ?control⟩
  case regs => simp [RegsKept]
  case ports => simp [PortsKept]
  case control => simp [ControlKept]

theorem exec_skt_of_memRead {s : State} {m : DataAddr} {v : Nibble} (h : memRead s m = .ok v) (n : Nibble) :
    exec (.skt m n) s = .next (s.clearCmp.skipIf (allTrue v n)).nextPc := judge_of_memRead h allTrue n

theorem exec_skf_of_memRead {s : State} {m : DataAddr} {v : Nibble} (h : memRead s m = .ok v) (n : Nibble) :
    exec (.skf m n) s = .next (s.clearCmp.skipIf (allFalse v n)).nextPc := judge_of_memRead h allFalse n

/-- Settles O21: both tests are `judge` on the nibble read before CMP is cleared. -/
theorem bitTestsClearCmpAndSkip : Obligations.BitTestsClearCmpAndSkip := by
  intro m n s v hv
  exact ⟨⟨_, exec_skt_of_memRead hv n, skipIf_clearCmp_frame s (allTrue_iff v n) rfl⟩,
    ⟨_, exec_skf_of_memRead hv n, skipIf_clearCmp_frame s (allFalse_iff v n) rfl⟩⟩

/-! ### The loop of RORC -/

/-- A register and CY as the five-bit loop that RORC turns (43_rotate_transfer.md R201). -/
def rotateLoop (x : Nibble × Bool) : Nibble × Bool := (rotatedRight x.1 x.2, x.1.getLsbD 0)

/-- The loop has five bits. -/
theorem rotateLoop_five (x : Nibble × Bool) :
    rotateLoop (rotateLoop (rotateLoop (rotateLoop (rotateLoop x)))) = x := by
  revert x
  decide

/-- The register and CY turn; every other register and flag is held; the pc advances. -/
theorem rorc_turns {r : RegNum} {s t : State} (h : exec (.rorc r) s = .next t) :
    (t.reg r, t.cy) = rotateLoop (s.reg r, s.cy) ∧ (∀ k, k ≠ r → t.reg k = s.reg k) ∧ t.bcd = s.bcd ∧ t.cmp = s.cmp ∧
      t.z = s.z ∧ t.pc = s.pc + 1#9 := by
  rw [exec_rorc] at h
  cases h
  exact ⟨by simp [rotateLoop], fun k hk => State.reg_setReg_other s _ hk, rfl, rfl, rfl, rfl⟩

/-- Settles O24: five turns of the loop are none. -/
theorem fiveRorcRestoreRegisterAndCarry : Obligations.FiveRorcRestoreRegisterAndCarry := by
  intro r s s1 s2 s3 s4 s5 h1 h2 h3 h4 h5
  obtain ⟨hloop1, hregs1, hbcd1, hcmp1, hz1, hpc1⟩ := rorc_turns h1
  obtain ⟨hloop2, hregs2, hbcd2, hcmp2, hz2, hpc2⟩ := rorc_turns h2
  obtain ⟨hloop3, hregs3, hbcd3, hcmp3, hz3, hpc3⟩ := rorc_turns h3
  obtain ⟨hloop4, hregs4, hbcd4, hcmp4, hz4, hpc4⟩ := rorc_turns h4
  obtain ⟨hloop5, hregs5, hbcd5, hcmp5, hz5, hpc5⟩ := rorc_turns h5
  have hloop : (s5.reg r, s5.cy) = (s.reg r, s.cy) := by
    rw [hloop5, hloop4, hloop3, hloop2, hloop1, rotateLoop_five]
  obtain ⟨hreg, hcy⟩ := Prod.mk.inj hloop
  refine ⟨fun k => ?regs, ⟨?bcd, ?cmp, hcy, ?z⟩, ?pc⟩
  case regs =>
    by_cases hk : k = r
    · exact hk ▸ hreg
    · rw [hregs5 k hk, hregs4 k hk, hregs3 k hk, hregs2 k hk, hregs1 k hk]
  case bcd => rw [hbcd5, hbcd4, hbcd3, hbcd2, hbcd1]
  case cmp => rw [hcmp5, hcmp4, hcmp3, hcmp2, hcmp1]
  case z => rw [hz5, hz4, hz3, hz2, hz1]
  case pc =>
    rw [hpc5, hpc4, hpc3, hpc2, hpc1]
    bv_omega

end Sys2Proof.Proofs
end

section
/-! BR, CALL, RET, RETSK, HALT and STOP (44_branch_subroutine.md R211 to R215, 45_other.md R231, R232): what each does on
every operand: the statements O28 to O31, O34 and O35. -/

namespace Sys2Proof.Proofs

open Sys2Proof Sys2Proof.Machine Sys2Proof.Claims

/-! ### Reserved operand bits as bounds -/

/-- The reserved address bits are clear exactly below 200H (30_encoding.md R111). -/
theorem addrBitsZero_iff_lt (a : BitVec 11) : addrBitsZero a = true ↔ a.toNat < 512 := by
  have hlt := a.isLt
  simp only [addrBitsZero, beq_iff_eq, ← BitVec.toNat_inj, BitVec.extractLsb'_toNat, Nat.shiftRight_eq_div_pow]
  simp
  omega

theorem addrBitsZero_eq_false {a : BitVec 11} (h : 512 ≤ a.toNat) : addrBitsZero a = false := by
  rw [Bool.eq_false_iff, ne_eq, addrBitsZero_iff_lt]
  omega

/-- The reserved condition bits are clear exactly for the operands 0 and 1 (30_encoding.md R112). -/
theorem conditionBitsZero_eq_false {c : Nibble} (h : 2 ≤ c.toNat) : conditionBitsZero c = false := by
  revert c
  decide

theorem branchTarget_eq (a : BitVec 11) : branchTarget a = BitVec.ofNat 9 a.toNat := by
  simp [branchTarget, BitVec.extractLsb']

/-! ### Branch and subroutine -/

theorem execBr_of_lt {a : BitVec 11} (h : a.toNat < 512) (s : State) : execBr a s = .next (s.jump (branchTarget a)) := by
  simp [execBr, (addrBitsZero_iff_lt a).mpr h]

theorem execBr_of_reserved {a : BitVec 11} (h : 512 ≤ a.toNat) (s : State) :
    execBr a s = .fault (.illegalInstruction (encode (.br a)) s.pc) := by
  simp [execBr, addrBitsZero_eq_false h]

/-- Settles O28: the branch target is the address itself where the reserved bits are clear. -/
theorem branchLoadsPc : Obligations.BranchLoadsPc := by
  intro a s
  refine ⟨fun h => (execBr_of_lt h s).trans ?_, fun h => execBr_of_reserved h s⟩
  rw [branchTarget_eq]
  rfl

theorem execCall_of_free {a : BitVec 11} (h : a.toNat < 512) {s : State} (hd : s.depth = false) :
    execCall a s = .next ((s.pushReturn (s.pc + 1#9)).jump (branchTarget a)) := by
  simp [execCall, (addrBitsZero_iff_lt a).mpr h, hd]

/-- Settles O29: the reserved bits are looked at first, then the saved level. -/
theorem callSavesReturnAddress : Obligations.CallSavesReturnAddress := by
  intro a s
  refine ⟨fun h hd => (execCall_of_free h hd).trans ?_, fun h hd => ?overflow, fun h => ?reserved⟩
  · rw [branchTarget_eq]
    rfl
  case overflow => simp [exec, execCall, (addrBitsZero_iff_lt a).mpr h, hd]
  case reserved =>
    simp [exec, execCall, addrBitsZero_eq_false h]
    rfl

theorem exec_ret_of_saved {s : State} (hd : s.depth = true) : exec .ret s = .next s.popReturn := by
  simp [exec, execRet, hd]

theorem exec_retsk_of_saved {s : State} (hd : s.depth = true) :
    exec .retsk s = .next (s.popReturn.setSkip true) := by
  simp [exec, execRetsk, hd]

/-- Settles O30: a return is `popReturn` where an address is saved. -/
theorem returnsLoadPcFromAsr : Obligations.ReturnsLoadPcFromAsr := by
  intro s
  refine ⟨fun hd => ⟨exec_ret_of_saved hd, exec_retsk_of_saved hd⟩, fun hd => ?_⟩
  simp [exec, execRet, execRetsk, hd]

/-- Settles O31: ASR holds the address after the CALL, and RETSK's skipped slot is a NOP there. -/
theorem callThenReturnResumesAfterTheCall : Obligations.CallThenReturnResumesAfterTheCall := by
  intro a s t u h hasr hdepth
  obtain ⟨-, -, rfl⟩ := execCall_next h
  have hsaved : u.depth = true := hdepth
  have hreturn : u.asr = s.pc + 1#9 := hasr
  refine ⟨⟨_, exec_ret_of_saved hsaved, hreturn, rfl⟩,
    ⟨_, _, exec_retsk_of_saved hsaved, cpuStep_of_skip rfl, ?_, rfl⟩⟩
  change u.asr + 1#9 = s.pc + 2#9
  rw [hreturn]
  bv_omega

/-! ### HALT and STOP -/

theorem execHalt_of_reserved {c : Nibble} (h : conditionBitsZero c = false) (s : State) :
    execHalt c s = .fault (.illegalInstruction (encode (.halt c)) s.pc) := by
  simp [execHalt, h]

theorem execStop_of_reserved {c : Nibble} (h : conditionBitsZero c = false) (s : State) :
    execStop c s = .fault (.illegalInstruction (encode (.stop c)) s.pc) := by
  simp [execStop, h]

/-- HALT 0001B looks at its release pin (45_other.md R231). -/
theorem execHalt_one (s : State) :
    execHalt 1#4 s = .next (if pinLevel s .p0b0 then s.nextPc else s.nextPc.setMode (.halt .p0b0)) := by
  cases h : pinLevel s .p0b0 <;> simp [execHalt, h, (conditionBitsZero_iff 1#4).mpr (.inr rfl)]

/-- STOP 0001B looks at its release pin (45_other.md R232). -/
theorem execStop_one (s : State) :
    execStop 1#4 s = .next (if pinLevel s .p0b1 then s.nextPc else s.nextPc.setMode (.stop .p0b1)) := by
  cases h : pinLevel s .p0b1 <;> simp [execStop, h, (conditionBitsZero_iff 1#4).mpr (.inr rfl)]

theorem encode_halt_eq (c : Nibble) : encode (.halt c) = 0x3BF#12 ++ c := by
  revert c
  decide

theorem encode_stop_eq (c : Nibble) : encode (.stop c) = 0x3AF#12 ++ c := by
  revert c
  decide

/-- Settles O34: operand 0 enters, operand 1 asks the pin, the others are reserved. -/
theorem haltEntersHaltMode : Obligations.HaltEntersHaltMode := by
  intro s
  refine ⟨rfl, fun hpin => (execHalt_one s).trans ?_, fun hpin => (execHalt_one s).trans ?_, fun c hc => ?_⟩
  · rw [hpin]
    rfl
  · rw [hpin]
    rfl
  · rw [← encode_halt_eq]
    exact execHalt_of_reserved (conditionBitsZero_eq_false hc) s

/-- Settles O35: operand 0 initialises and enters, operand 1 asks the pin, the others are reserved. -/
theorem stopEntersStopMode : Obligations.StopEntersStopMode := by
  intro s
  refine ⟨rfl, fun hpin => (execStop_one s).trans ?_, fun hpin => (execStop_one s).trans ?_, fun c hc => ?_⟩
  · rw [hpin]
    rfl
  · rw [hpin]
    rfl
  · rw [← encode_stop_eq]
    exact execStop_of_reserved (conditionBitsZero_eq_false hc) s

end Sys2Proof.Proofs
end

section
/-! Release from standby and the RESET pin (60_exceptions.md R276, R295 to R298; 70_reset_and_hazards.md R320, R321): one
step with RESET high in a standby mode, one step with RESET low, and both for any number of evaluations: the statements
O36, O38, O39 and O40. -/

namespace Sys2Proof.Proofs

open Sys2Proof Sys2Proof.Machine Sys2Proof.Claims

/-! ### RESET high -/

theorem step_of_resetHigh {s u : State} (hreset : resetLevel s = true)
    (h : whileResetHigh (s.setResetHeld false) = .next u) : step s = .next u.endEvaluation :=
  step_of_evaluate (by rw [evaluate, if_pos hreset, h])

/-- HALT 0001B waits for P0B0 (60_exceptions.md R297). -/
theorem whileResetHigh_of_halt {s : State} (hm : s.mode = .halt .p0b0) :
    whileResetHigh s = .next (if pinLevel s .p0b0 then s.setMode .run else s) := by
  simp only [whileResetHigh, hm]

/-- STOP 0001B waits for P0B1 (60_exceptions.md R298). -/
theorem whileResetHigh_of_stop {s : State} (hm : s.mode = .stop .p0b1) :
    whileResetHigh s = .next (if pinLevel s .p0b1 then s.setMode .run else s) := by
  simp only [whileResetHigh, hm]

theorem whileResetHigh_of_waitsForReset {s : State} (h : WaitsForReset s) : whileResetHigh s = .next s := by
  obtain hm | hm := h <;> simp only [whileResetHigh, hm]

/-- A standby that only RESET ends is held by a step with RESET high (60_exceptions.md R295). -/
theorem step_of_waitsForReset {s : State} (hreset : resetLevel s = true) (h : WaitsForReset s) :
    step s = .next { s with resetHeld := false, env := s.env.advance } :=
  step_of_resetHigh hreset (whileResetHigh_of_waitsForReset (s := s.setResetHeld false) h)

/-- Settles O36: each standby mode looks at its own release pin, which the reset marker does not reach. -/
theorem standbyReleasedOnlyByItsPin : Obligations.StandbyReleasedOnlyByItsPin := by
  intro s hreset
  have hhalt := fun hm : s.mode = .halt .p0b0 => whileResetHigh_of_halt (s := s.setResetHeld false) hm
  have hstop := fun hm : s.mode = .stop .p0b1 => whileResetHigh_of_stop (s := s.setResetHeld false) hm
  simp only [pinLevel_setResetHeld] at hhalt hstop
  have hreleased := step_of_resetHigh (u := (s.setResetHeld false).setMode .run) hreset
  have hheld := step_of_resetHigh (u := s.setResetHeld false) hreset
  refine ⟨fun hm hpin => hreleased ?_, fun hm hpin => hheld ?_, fun hm hpin => hreleased ?_, fun hm hpin => hheld ?_,
    step_of_waitsForReset hreset⟩
  · rw [hhalt hm, if_pos hpin]
  · rw [hhalt hm, hpin, if_neg Bool.false_ne_true]
  · rw [hstop hm, if_pos hpin]
  · rw [hstop hm, hpin, if_neg Bool.false_ne_true]

/-! ### The environment's levels to come -/

/-- What holds of the levels now and of all levels to come holds so after the environment's move (log entry 11). -/
theorem forall_levels_advance {P : Ext → Prop} {e : Env} (hnow : P e.now) (hlater : ∀ x ∈ e.later, P x) :
    P e.advance.now ∧ ∀ x ∈ e.advance.later, P x := by
  cases hl : e.later with
  | nil =>
    rw [advance_of_nil hl]
    exact ⟨hnow, hlater⟩
  | cons x rest =>
    rw [hl] at hlater
    rw [advance_of_cons hl]
    exact ⟨hlater x List.mem_cons_self, fun y hy => hlater y (List.mem_cons_of_mem x hy)⟩

theorem resetLevel_of_high {s : State} (h : s.env.now.reset = .high) : resetLevel s = true := by
  simp only [resetLevel, h]

theorem resetLevel_of_low {s : State} (h : s.env.now.reset = .low) : resetLevel s = false := by
  simp only [resetLevel, h]

/-- A finished run goes on for ever in the state it reached, but for the reset marker and the environment
(92_eei_decisions.md D18). -/
theorem runsTo_of_finished (n : Nat) {s : State} (h : Finished s) :
    ∃ b e, RunsTo n s { s with resetHeld := b, env := e } ∧ NoResetAhead e := by
  induction n generalizing s with
  | zero => exact ⟨s.resetHeld, s.env, runsTo_zero s, h.2⟩
  | succ n ih =>
    obtain ⟨hwaits, hnow, hlater⟩ := h
    have hstep := step_of_waitsForReset (resetLevel_of_high hnow) hwaits
    obtain ⟨b, e, hrun, he⟩ := ih (s := { s with resetHeld := false, env := s.env.advance })
      ⟨hwaits, forall_levels_advance (P := fun x => x.reset = .high) hnow hlater⟩
    exact ⟨b, e, runsTo_succ.mpr ⟨_, hstep, hrun⟩, he⟩

/-- Settles O38: the state reached differs in the reset marker and the environment alone. -/
theorem resetOnlyStandbyLasts : Obligations.ResetOnlyStandbyLasts := by
  intro n s h
  obtain ⟨b, e, hrun, he⟩ := runsTo_of_finished n h
  exact ⟨_, hrun, ⟨h.1, he⟩, rfl, rfl, rfl, rfl, rfl, fun _ => rfl, ⟨rfl, rfl, rfl, rfl⟩,
    ⟨rfl, rfl, rfl, rfl, rfl, rfl⟩, rfl⟩

/-! ### RESET low -/

theorem step_of_resetLow {s : State} (h : resetLevel s = false) : step s = .next (whileResetLow s).endEvaluation :=
  step_of_evaluate (by rw [evaluate, h, if_neg Bool.false_ne_true])

theorem whileResetLow_of_held {s : State} (h : s.resetHeld = true) : whileResetLow s = s := by
  rw [whileResetLow, if_pos h]

theorem whileResetLow_of_not_held {s : State} (h : s.resetHeld = false) :
    whileResetLow s = (resetEvent s).setResetHeld true := by
  rw [whileResetLow, h, if_neg Bool.false_ne_true]

/-- The reset event holds the registers where the chip was in standby (70_reset_and_hazards.md R321). -/
theorem resetEvent_reg_of_standby {s : State} (hm : s.mode ≠ .run) (k : RegNum) : (resetEvent s).reg k = s.reg k :=
  State.reg_congr (by rw [resetEvent_ram, if_neg hm]) k

/-- Settles O39: the first evaluation with RESET low is the reset event, whatever the mode. -/
theorem resetClearsAndHoldsRamInStandby : Obligations.ResetClearsAndHoldsRamInStandby := by
  intro s hlow hheld
  have hstep := step_of_resetLow hlow
  rw [whileResetLow_of_not_held hheld] at hstep
  exact ⟨_, hstep, rfl, rfl, rfl, rfl, rfl, rfl, rfl, rfl, rfl, rfl, rfl, rfl, rfl,
    fun hm k => resetEvent_reg_of_standby hm k⟩

/-- Settles O40: an evaluation with RESET low after another one changes nothing but the environment's position. -/
theorem resetStateIsHeldWhileLow : Obligations.ResetStateIsHeldWhileLow := by
  intro n
  induction n with
  | zero => exact fun s _ _ _ => ⟨s.env, runsTo_zero s⟩
  | succ n ih =>
    intro s hheld hnow hlater
    have hstep := step_of_resetLow (resetLevel_of_low hnow)
    rw [whileResetLow_of_held hheld] at hstep
    obtain ⟨hnow', hlater'⟩ := forall_levels_advance (P := fun x => x.reset = .low) hnow hlater
    obtain ⟨e, hrun⟩ := ih s.endEvaluation hheld hnow' hlater'
    exact ⟨e, runsTo_succ.mpr ⟨_, hstep, hrun⟩⟩

end Sys2Proof.Proofs
end

section
/-! Where instructions stop (60_exceptions.md R271; 20_memory.md R65): every outcome of every instruction is a next state
or a stop for a named reason: the statements O48 and O49. -/

namespace Sys2Proof.Proofs

open Sys2Proof Sys2Proof.Machine Sys2Proof.Claims

/-! ### Absent data addresses -/

theorem arith_reg_stopsWithRead (op : ArithOp) (r : RegNum) (m : DataAddr) : StopsWithRead (op.reg r m) m :=
  stopsWithRead_of_error fun s f hf => by
    rw [exec_arith_reg, arithRM, operandsRM_of_memRead_error hf, onOk_error]

theorem arith_imm_stopsWithRead (op : ArithOp) (m : DataAddr) (n : Nibble) : StopsWithRead (op.imm m n) m :=
  stopsWithRead_of_error fun s f hf => by
    rw [exec_arith_imm, arithMI, operandsMI_of_memRead_error hf, onOk_error]

theorem judge_of_memRead_error {s : State} {m : DataAddr} {f : Fault} (h : memRead s m = .error f)
    (cond : Nibble → Nibble → Bool) (n : Nibble) : judge cond m n s = .fault f := by
  rw [judge, operandsMI_of_memRead_error h, onOk_error]

theorem skt_stopsWithRead (m : DataAddr) (n : Nibble) : StopsWithRead (.skt m n) m :=
  stopsWithRead_of_error fun _ _ hf => judge_of_memRead_error hf allTrue n

theorem skf_stopsWithRead (m : DataAddr) (n : Nibble) : StopsWithRead (.skf m n) m :=
  stopsWithRead_of_error fun _ _ hf => judge_of_memRead_error hf allFalse n

theorem stopsOnAbsent_of_read {i : Instr} {m : DataAddr} (h : StopsWithRead i m) : StopsOnAbsent i m := by
  intro s hm hpolicy
  have hread : memRead s m = .error (.unimplementedDataAddress m s.pc) := by
    simp [memRead_of_not_implemented hm, readAbsent, hpolicy]
  exact (h s _ hread).1

theorem stopsOnAbsent_of_write {i : Instr} {m : DataAddr} (h : StopsWithWrite i m) : StopsOnAbsent i m := by
  intro s hm hpolicy
  have hwrite : memWrite s m 0#4 = .error (.unimplementedDataAddress m s.pc) := by
    simp [memWrite_of_not_implemented hm, writeAbsent, hpolicy]
  exact (h s 0#4 _ hwrite).1

theorem dataOperand_arith_reg (op : ArithOp) (r : RegNum) (m : DataAddr) : dataOperand (op.reg r m) = some m := by
  cases op <;> rfl

theorem dataOperand_arith_imm (op : ArithOp) (m : DataAddr) (n : Nibble) : dataOperand (op.imm m n) = some m := by
  cases op <;> rfl

theorem dataOperand_logic_reg (op : LogicOp) (r : RegNum) (m : DataAddr) : dataOperand (op.reg r m) = some m := by
  cases op <;> rfl

theorem dataOperand_logic_imm (op : LogicOp) (m : DataAddr) (n : Nibble) : dataOperand (op.imm m n) = some m := by
  cases op <;> rfl

theorem dataOperand_compare (op : CompareOp) (m : DataAddr) (n : Nibble) : dataOperand (op.instr m n) = some m := by
  cases op <;> rfl

/-- Settles O48: an instruction with a data operand reads it, or is a store there. -/
theorem absentDataAddressStops : Obligations.AbsentDataAddressStops := by
  intro i m h
  induction i using instr_families with
  | arithReg op r m' =>
    cases (dataOperand_arith_reg op r m').symm.trans h
    exact stopsOnAbsent_of_read (arith_reg_stopsWithRead op r m)
  | arithImm op m' n =>
    cases (dataOperand_arith_imm op m' n).symm.trans h
    exact stopsOnAbsent_of_read (arith_imm_stopsWithRead op m n)
  | logicReg op r m' =>
    cases (dataOperand_logic_reg op r m').symm.trans h
    exact stopsOnAbsent_of_read (logic_reg_stopsWithRead op r m)
  | logicImm op m' n =>
    cases (dataOperand_logic_imm op m' n).symm.trans h
    exact stopsOnAbsent_of_read (logic_imm_stopsWithRead op m n)
  | compare op m' n =>
    cases (dataOperand_compare op m' n).symm.trans h
    exact stopsOnAbsent_of_read (compare_stopsWithRead op m n)
  | skt m' n =>
    cases h
    exact stopsOnAbsent_of_read (skt_stopsWithRead m n)
  | skf m' n =>
    cases h
    exact stopsOnAbsent_of_read (skf_stopsWithRead m n)
  | ld r m' =>
    cases h
    exact stopsOnAbsent_of_read (ld_stopsWithRead r m)
  | st m' r =>
    cases h
    exact stopsOnAbsent_of_write (stopsWithWrite_of_storeAt (exec_st m r))
  | mov m' n =>
    cases h
    exact stopsOnAbsent_of_write (stopsWithWrite_of_storeAt (exec_mov m n))
  | rorc | br | call | ret | retsk | stop | halt | nop => cases h

/-! ### Every stop has its reason -/

/-- The data address `m` is absent and the policy is to stop. -/
def AbsentStop (m : DataAddr) (s : State) (f : Fault) : Prop :=
  ¬ Implemented m ∧ s.chip.absent = .fault ∧ f = .unimplementedDataAddress m s.pc

/-- The four reasons for which an instruction stops (60_exceptions.md R271). -/
def NamedReason (i : Instr) (s : State) (f : Fault) : Prop :=
  (∃ m, dataOperand i = some m ∧ AbsentStop m s f) ∨
  (i.wellFormed = false ∧ f = .illegalInstruction (encode i) s.pc) ∨
  ((∃ addr, i = .call addr) ∧ s.depth = true ∧ f = .stackOverflow s.pc) ∨
  ((i = .ret ∨ i = .retsk) ∧ s.depth = false ∧ f = .stackUnderflow s.pc)

/-- The outcome is a next state or a stop for a reason of `R`, and no refusal. -/
def StopsOnlyFor (R : Fault → Prop) (x : Result) : Prop := (∀ q, x ≠ .refused q) ∧ ∀ f, x = .fault f → R f

theorem stopsOnlyFor_next (R : Fault → Prop) (t : State) : StopsOnlyFor R (.next t) := ⟨nofun, nofun⟩

theorem stopsOnlyFor_fault {R : Fault → Prop} {f : Fault} (h : R f) : StopsOnlyFor R (.fault f) :=
  ⟨nofun, fun _ hg => by cases hg; exact h⟩

theorem stopsOnlyFor_onOk {α : Type} {R : Fault → Prop} {x : Except Fault α} {k : α → Result}
    (herror : ∀ f, x = .error f → R f) (hok : ∀ a, StopsOnlyFor R (k a)) : StopsOnlyFor R (onOk x k) := by
  cases x with
  | ok a => exact hok a
  | error f => exact stopsOnlyFor_fault (herror f rfl)

theorem absentStop_of_memRead {s : State} {m : DataAddr} {f : Fault} (h : memRead s m = .error f) :
    AbsentStop m s f := by
  obtain ⟨hplace, hpolicy, hf⟩ := memRead_error h
  exact ⟨(place_eq_absent m).mp hplace, hpolicy, hf⟩

theorem absentStop_of_memWrite {s : State} {m : DataAddr} {v : Nibble} {f : Fault} (h : memWrite s m v = .error f) :
    AbsentStop m s f := by
  obtain ⟨hplace, hpolicy, hf⟩ := memWrite_error h
  exact ⟨(place_eq_absent m).mp hplace, hpolicy, hf⟩

theorem storeAt_stopsOnlyFor (s : State) (m : DataAddr) (v : Nibble) : StopsOnlyFor (AbsentStop m s) (storeAt s m v) :=
  stopsOnlyFor_onOk (fun _ => absentStop_of_memWrite) fun _ => stopsOnlyFor_next ..

theorem arithExec_stopsOnlyFor (dir : Direction) (m : DataAddr) (x : AluInput) (c : Bool) (s : State) :
    StopsOnlyFor (AbsentStop m s) (arithExec dir m x c s) := by
  unfold arithExec
  dsimp only
  split
  · exact stopsOnlyFor_next ..
  · exact storeAt_stopsOnlyFor (s.setCarryZero _ _) m _

/-- With its result in a register, an arithmetic operation never stops at the store. -/
theorem arithExec_regAddr_stopsOnlyFor (R : Fault → Prop) (dir : Direction) (r : RegNum) (x : AluInput) (c : Bool)
    (s : State) : StopsOnlyFor R (arithExec dir (regAddr r) x c s) := by
  unfold arithExec
  dsimp only
  split
  · exact stopsOnlyFor_next ..
  · rw [storeAt_of_memWrite (memWrite_regAddr _ r _)]
    exact stopsOnlyFor_next ..

theorem StopsOnlyFor.mono {R R' : Fault → Prop} (hR : ∀ f, R f → R' f) {x : Result} (h : StopsOnlyFor R x) :
    StopsOnlyFor R' x := ⟨h.1, fun f hf => hR f (h.2 f hf)⟩

theorem namedReason_of_absent {i : Instr} {m : DataAddr} (hi : dataOperand i = some m) (s : State) (f : Fault)
    (h : AbsentStop m s f) : NamedReason i s f := .inl ⟨m, hi, h⟩

theorem operandsRM_stop {s : State} {r : RegNum} {m : DataAddr} (f : Fault) (h : operandsRM s r m = .error f) :
    AbsentStop m s f := absentStop_of_memRead (operandsRM_error h)

theorem operandsMI_stop {s : State} {m : DataAddr} {n : Nibble} (f : Fault) (h : operandsMI s m n = .error f) :
    AbsentStop m s f := absentStop_of_memRead (operandsMI_error h)

theorem execCall_stopsOnlyFor (a : BitVec 11) (s : State) : StopsOnlyFor (NamedReason (.call a) s) (execCall a s) := by
  unfold execCall
  split
  · next ha => exact stopsOnlyFor_fault (.inr (.inl ⟨by simpa [Instr.wellFormed] using ha, rfl⟩))
  · split
    · next hd => exact stopsOnlyFor_fault (.inr (.inr (.inl ⟨⟨a, rfl⟩, hd, rfl⟩)))
    · exact stopsOnlyFor_next ..

theorem execHalt_stopsOnlyFor (c : Nibble) (s : State) : StopsOnlyFor (NamedReason (.halt c) s) (execHalt c s) := by
  unfold execHalt
  split
  · next hc => exact stopsOnlyFor_fault (.inr (.inl ⟨by simpa [Instr.wellFormed] using hc, rfl⟩))
  · split
    · exact stopsOnlyFor_next ..
    · split <;> exact stopsOnlyFor_next ..

theorem execStop_stopsOnlyFor (c : Nibble) (s : State) : StopsOnlyFor (NamedReason (.stop c) s) (execStop c s) := by
  unfold execStop
  split
  · next hc => exact stopsOnlyFor_fault (.inr (.inl ⟨by simpa [Instr.wellFormed] using hc, rfl⟩))
  · split
    · exact stopsOnlyFor_next ..
    · split <;> exact stopsOnlyFor_next ..

/-- Every instruction stops only for a named reason. -/
theorem exec_stopsOnlyFor (i : Instr) (s : State) : StopsOnlyFor (NamedReason i s) (exec i s) := by
  induction i using instr_families with
  | arithReg op r m =>
    rw [exec_arith_reg]
    refine .mono (namedReason_of_absent (dataOperand_arith_reg op r m) s) ?_
    exact stopsOnlyFor_onOk operandsRM_stop fun _ => arithExec_regAddr_stopsOnlyFor ..
  | arithImm op m n =>
    rw [exec_arith_imm]
    refine .mono (namedReason_of_absent (dataOperand_arith_imm op m n) s) ?_
    exact stopsOnlyFor_onOk operandsMI_stop fun _ => arithExec_stopsOnlyFor ..
  | logicReg op r m =>
    rw [exec_logic_reg]
    refine .mono (namedReason_of_absent (dataOperand_logic_reg op r m) s) ?_
    exact stopsOnlyFor_onOk operandsRM_stop fun _ => stopsOnlyFor_next ..
  | logicImm op m n =>
    rw [exec_logic_imm]
    refine .mono (namedReason_of_absent (dataOperand_logic_imm op m n) s) ?_
    exact stopsOnlyFor_onOk operandsMI_stop fun _ => storeAt_stopsOnlyFor ..
  | compare op m n =>
    rw [exec_compare]
    refine .mono (namedReason_of_absent (dataOperand_compare op m n) s) ?_
    exact stopsOnlyFor_onOk operandsMI_stop fun _ => stopsOnlyFor_next ..
  | skt m n | skf m n =>
    refine .mono (namedReason_of_absent rfl s) ?_
    exact stopsOnlyFor_onOk operandsMI_stop fun _ => stopsOnlyFor_next ..
  | ld r m =>
    refine .mono (namedReason_of_absent rfl s) ?_
    exact stopsOnlyFor_onOk (fun _ => absentStop_of_memRead) fun _ => stopsOnlyFor_next ..
  | st m r => exact .mono (namedReason_of_absent rfl s) (storeAt_stopsOnlyFor s m (s.reg r))
  | mov m n => exact .mono (namedReason_of_absent rfl s) (storeAt_stopsOnlyFor s m n)
  | br a =>
    simp only [exec, execBr]
    split
    · exact stopsOnlyFor_next ..
    · next ha => exact stopsOnlyFor_fault (.inr (.inl ⟨by simpa [Instr.wellFormed] using ha, rfl⟩))
  | call a => exact execCall_stopsOnlyFor a s
  | ret =>
    simp only [exec, execRet]
    split
    · exact stopsOnlyFor_next ..
    · next hd => exact stopsOnlyFor_fault (.inr (.inr (.inr ⟨.inl rfl, by simpa using hd, rfl⟩)))
  | retsk =>
    simp only [exec, execRetsk]
    split
    · exact stopsOnlyFor_next ..
    · next hd => exact stopsOnlyFor_fault (.inr (.inr (.inr ⟨.inr rfl, by simpa using hd, rfl⟩)))
  | stop c => exact execStop_stopsOnlyFor c s
  | halt c => exact execHalt_stopsOnlyFor c s
  | rorc | nop => exact stopsOnlyFor_next ..

/-- Settles O49: the reasons of `exec_stopsOnlyFor` are the four of the statement. -/
theorem instructionsStopOnlyForNamedReasons : Obligations.InstructionsStopOnlyForNamedReasons :=
  fun i s => exec_stopsOnlyFor i s

end Sys2Proof.Proofs
end

section
/-! The assembler's macros (46_assembler.md R250, R251, R258, R260): which bits a nibble of stored flags keeps, what the
combined mask does to them, and the four flags of one nibble: the statements O50 to O52. -/

namespace Sys2Proof.Proofs

open Sys2Proof Sys2Proof.Machine Sys2Proof.Claims

/-! ### Nibbles that a store keeps as they are -/

/-- Every set bit of `v` is a stored flag of the nibble at `m` (10_state.md R29). -/
def KeptNibble (m : DataAddr) (v : Nibble) : Prop := ∀ k : Fin 4, v.getLsbD k.val = true → StoredFlag ⟨m, k⟩

/-- A nibble that holds a stored flag is a RAM nibble, 7EH or 7FH. -/
theorem place_of_storedFlag {f : FlagRef} (h : StoredFlag f) :
    f.addr.toNat ≤ 0x0F ∨ f.addr = 0x7E#7 ∨ f.addr = 0x7F#7 := by
  obtain h | ⟨h, -⟩ | ⟨h, -⟩ := h
  · exact .inl h
  · exact .inr (.inl h)
  · exact .inr (.inr h)

/-- A kept nibble reads as it was written (20_memory.md R74). -/
theorem memRead_of_keptNibble {s t : State} {m : DataAddr} {w : Nibble} (h : memWrite s m w = .ok t)
    (hm : m.toNat ≤ 0x0F ∨ m = 0x7E#7 ∨ m = 0x7F#7) (hw : KeptNibble m w) : memRead t m = .ok w := by
  obtain ⟨hram, hbcd, hpsw, -⟩ := readAfterWrite s t m w h
  have hbit0 : ∀ w : Nibble, (∀ k : Fin 4, w.getLsbD k.val = true → k = 0) → w &&& 0b0001#4 = w := by decide
  have hbits : ∀ w : Nibble, (∀ k : Fin 4, w.getLsbD k.val = true → k ≠ 0) → w &&& 0b1110#4 = w := by decide
  obtain hm | rfl | rfl := hm
  · exact hram hm
  · rw [hbcd rfl, hbit0 w fun k hk => by simpa [StoredFlag] using hw k hk]
  · rw [hpsw rfl, hbits w fun k hk => by simpa [StoredFlag] using hw k hk]

/-- What is read where a flag is stored is a kept nibble. -/
theorem keptNibble_of_memRead {s : State} {m : DataAddr} {v : Nibble} (h : memRead s m = .ok v)
    (hm : m.toNat ≤ 0x0F ∨ m = 0x7E#7 ∨ m = 0x7F#7) : KeptNibble m v := by
  have hbcd : ∀ b, ∀ k : Fin 4, (nibbleOf false false false b).getLsbD k.val = true → k = 0 := by decide
  have hpsw : ∀ b3 b2 b1, ∀ k : Fin 4, (nibbleOf b3 b2 b1 false).getLsbD k.val = true → k ≠ 0 := by decide
  intro k hk
  obtain hm | rfl | rfl := hm
  · exact .inl hm
  · cases (memRead_bcdNibble s).symm.trans h
    exact .inr (.inl ⟨rfl, hbcd _ k hk⟩)
  · cases (memRead_psw s).symm.trans h
    exact .inr (.inr ⟨rfl, hpsw _ _ _ k hk⟩)

/-- Where a read and its result are kept nibbles, a logical instruction replaces the one by the other. -/
theorem replacesNibble_of_logic {x : BuiltinMacro} {op : LogicOp} {s : State} {m : DataAddr} {v n : Nibble}
    (hx : expandMacro x = some (op.imm m n)) (hv : memRead s m = .ok v)
    (hm : m.toNat ≤ 0x0F ∨ m = 0x7E#7 ∨ m = 0x7F#7) (hkept : KeptNibble m (logicFn op v n)) :
    ReplacesNibble x s m (logicFn op v n) := by
  obtain ⟨u, hu⟩ := memWrite_of_memRead hv s rfl (logicFn op v n)
  refine ⟨_, u.nextPc, hx, ?_, memRead_nextPc (memRead_of_keptNibble hu hm hkept),
    (stored_nextPc ..).mpr (memWrite_stored hu), (controlKept_nextPc ..).mpr (memWrite_controlKept hu),
    memWrite_advanced hu⟩
  rw [exec_logic_imm, logicMI_of_memRead hv, storeAt_of_memWrite hu]

/-! ### The bits of the three results -/

theorem set_bit (flags : List FlagRef) (v : Nibble) (k : Fin 4) :
    (logicFn .or v (flagMask flags)).getLsbD k.val = true ↔ v.getLsbD k.val = true ∨ ∃ f ∈ flags, f.bit = k := by
  rw [getLsbD_logicFn _ _ _ k.isLt, LogicOp.bit, Bool.or_eq_true, flagMask_bit]

theorem not_bit (flags : List FlagRef) (v : Nibble) (k : Fin 4) :
    (logicFn .xor v (flagMask flags)).getLsbD k.val = v.getLsbD k.val ↔ ∀ f ∈ flags, f.bit ≠ k := by
  have hxor : ∀ a b : Bool, (a != b) = a ↔ b = false := by decide
  rw [getLsbD_logicFn _ _ _ k.isLt, LogicOp.bit, hxor, Bool.eq_false_iff, ne_eq, flagMask_bit]
  simp

theorem clear_bit (flags : List FlagRef) (v : Nibble) (k : Fin 4) :
    (logicFn .and v (15#4 ^^^ flagMask flags)).getLsbD k.val = true ↔
      v.getLsbD k.val = true ∧ ∀ f ∈ flags, f.bit ≠ k := by
  have hones : ∀ k : Fin 4, (15#4).getLsbD k.val = true := by decide
  rw [getLsbD_logicFn _ _ _ k.isLt, LogicOp.bit, Bool.and_eq_true, BitVec.getLsbD_xor, hones, Bool.true_xor,
    Bool.not_eq_true', Bool.eq_false_iff, ne_eq, flagMask_bit]
  simp

theorem allTrue_flagMask (flags : List FlagRef) (v : Nibble) :
    allTrue v (flagMask flags) = true ↔ ∀ f ∈ flags, v.getLsbD f.bit.val = true := by
  rw [allTrue_iff]
  refine ⟨fun h f hf => h _ f.bit.isLt ((flagMask_bit flags f.bit).mpr ⟨f, hf, rfl⟩), fun h k hk hbit => ?_⟩
  obtain ⟨f, hf, hfk⟩ := (flagMask_bit flags ⟨k, hk⟩).mp hbit
  have hbit := h f hf
  rwa [hfk] at hbit

theorem allFalse_flagMask (flags : List FlagRef) (v : Nibble) :
    allFalse v (flagMask flags) = true ↔ ∀ f ∈ flags, v.getLsbD f.bit.val = false := by
  rw [allFalse_iff]
  refine ⟨fun h f hf => h _ f.bit.isLt ((flagMask_bit flags f.bit).mpr ⟨f, hf, rfl⟩), fun h k hk hbit => ?_⟩
  obtain ⟨f, hf, hfk⟩ := (flagMask_bit flags ⟨k, hk⟩).mp hbit
  have hbit := h f hf
  rwa [hfk] at hbit

theorem skipsWhen_of_test {x : BuiltinMacro} {i : Instr} {s : State} {c : Bool} {cond : Prop}
    (hx : expandMacro x = some i) (hexec : exec i s = .next (s.clearCmp.skipIf c).nextPc) (hc : c = true ↔ cond) :
    SkipsWhen x s cond := by
  obtain ⟨hcmp, hbcd, hcy, hz, hskip, hframe⟩ := skipIf_clearCmp_frame s hc rfl
  exact ⟨i, _, hx, hexec, hskip, hcmp, hbcd, hcy, hz, hframe⟩

/-- Settles O50: the macros on one nibble are OR, AND and XOR with the combined mask, or a bit test on it. -/
theorem macrosActOnExactlyTheirFlags : Obligations.MacrosActOnExactlyTheirFlags := by
  intro m flags s v hne hlen hflags hv
  have hone : oneNibble flags = some (m, flagMask flags) := oneNibble_of_same hne hlen fun f hf => (hflags f hf).1
  have hm : m.toNat ≤ 0x0F ∨ m = 0x7E#7 ∨ m = 0x7F#7 := by
    obtain ⟨f, hf⟩ := List.exists_mem_of_ne_nil flags hne
    obtain ⟨rfl, hstored⟩ := hflags f hf
    exact place_of_storedFlag hstored
  have hkept := keptNibble_of_memRead hv hm
  have hflagKept : ∀ k : Fin 4, (∃ f ∈ flags, f.bit = k) → StoredFlag ⟨m, k⟩ := by
    rintro k ⟨f, hf, rfl⟩
    obtain ⟨rfl, hstored⟩ := hflags f hf
    exact hstored
  refine ⟨⟨_, replacesNibble_of_logic (op := .or) ?_ hv hm fun k hk => ?_, set_bit flags v⟩,
    ⟨_, replacesNibble_of_logic (op := .and) ?_ hv hm fun k hk => ?_, clear_bit flags v⟩,
    ⟨_, replacesNibble_of_logic (op := .xor) ?_ hv hm fun k hk => ?_, not_bit flags v⟩, ?skt, ?skf⟩
  · simp [expandMacro, hone, LogicOp.imm]
  · exact ((set_bit flags v k).mp hk).elim (hkept k) (hflagKept k)
  · simp [expandMacro, hone, LogicOp.imm]
  · exact hkept k ((clear_bit flags v k).mp hk).1
  · simp [expandMacro, hone, LogicOp.imm]
  · by_cases hflag : ∃ f ∈ flags, f.bit = k
    · exact hflagKept k hflag
    · rw [(not_bit flags v k).mpr (by simpa using hflag)] at hk
      exact hkept k hk
  case skt =>
    exact skipsWhen_of_test (by simp [expandMacro, hone]) (exec_skt_of_memRead hv _) (allTrue_flagMask flags v)
  case skf =>
    exact skipsWhen_of_test (by simp [expandMacro, hone]) (exec_skf_of_memRead hv _) (allFalse_flagMask flags v)

/-- Settles O51: closed examples, evaluated. -/
theorem assemblerExamplesOfTheSource : Obligations.AssemblerExamplesOfTheSource := by
  unfold Obligations.AssemblerExamplesOfTheSource
  decide

/-! ### INITFLG -/

/-- Four flags that name all four bits name each bit once. -/
theorem bit_injective_of_cover {flags : List (Bool × FlagRef)} (hlen : flags.length = 4)
    (hcover : ∀ k : Fin 4, ∃ x ∈ flags, x.2.bit = k) {x y : Bool × FlagRef} (hx : x ∈ flags) (hy : y ∈ flags)
    (hxy : x.2.bit = y.2.bit) : x = y := by
  have hsub : (List.finRange 4).Subperm (flags.map fun x => x.2.bit) :=
    (List.nodup_finRange 4).subperm fun k _ => List.mem_map.mpr (hcover k)
  have hperm := hsub.perm_of_length_le (by simp [hlen])
  exact List.inj_on_of_nodup_map (hperm.nodup (List.nodup_finRange 4)) hx hy hxy

/-- The nibble stored has a 1 at each flag written plain (46_assembler.md R258). -/
theorem initValue_bit (flags : List (Bool × FlagRef)) (k : Fin 4) :
    (initValue flags).getLsbD k.val = true ↔ ∃ x ∈ flags, x.1 = false ∧ x.2.bit = k := by
  rw [initValue, flagMask_bit]
  simp [and_assoc]

/-- The mask of flags that name every bit selects every bit. -/
theorem flagMask_of_cover {flags : List FlagRef} (hcover : ∀ k : Fin 4, ∃ f ∈ flags, f.bit = k) :
    flagMask flags = 15#4 := by
  have hall : ∀ v : Nibble, (∀ k : Fin 4, v.getLsbD k.val = true) → v = 15#4 := by decide
  exact hall _ fun k => (flagMask_bit flags k).mpr (hcover k)

theorem expandMacro_initflg {m : DataAddr} {flags : List (Bool × FlagRef)} (hlen : flags.length = 4)
    (hm : ∀ x ∈ flags, x.2.addr = m) (hcover : ∀ k : Fin 4, ∃ x ∈ flags, x.2.bit = k) :
    expandMacro (.initflg flags) = some (.mov m (initValue flags)) := by
  have hbits : ∀ k : Fin 4, ∃ f ∈ flags.map fun x => x.2, f.bit = k := by
    intro k
    obtain ⟨x, hx, hk⟩ := hcover k
    exact ⟨x.2, List.mem_map_of_mem hx, hk⟩
  have hone : oneNibble (flags.map fun x => x.2) = some (m, 15#4) := by
    rw [← flagMask_of_cover hbits]
    refine oneNibble_of_same (fun hnil => ?_) (by simp [hlen]) (List.forall_mem_map.mpr hm)
    rw [List.map_eq_nil_iff.mp hnil] at hlen
    cases hlen
  simp [expandMacro, hone]

/-- Settles O52: INITFLG on all four bits is a MOV, and each bit is named by one flag only. -/
theorem initflgStoresTheWholeNibble : Obligations.InitflgStoresTheWholeNibble := by
  intro m flags s hlen hm hcover himpl
  obtain ⟨t, ht, hstored, hcontrol, hpc⟩ := storeAt_of_implemented_or_policy (s := s) (.inl himpl) (initValue flags)
  refine ⟨_, t, _, expandMacro_initflg hlen hm hcover, ht, hstored, hcontrol, hpc, fun x hx => ?_⟩
  cases hplain : x.1 with
  | false => exact (initValue_bit flags x.2.bit).mpr ⟨x, hx, hplain, rfl⟩
  | true =>
    rw [Bool.not_true, Bool.eq_false_iff, ne_eq, initValue_bit]
    rintro ⟨y, hy, hyplain, hbit⟩
    rw [bit_injective_of_cover hlen hcover hy hx hbit, hplain] at hyplain
    cases hyplain

end Sys2Proof.Proofs
end

section
/-! What cannot be observed: the latch of a port in input mode, and ASR with no return address saved (10_state.md R42;
93_implementation_defined.md U2, U3). A state with these set to 0 stands for all states that differ in nothing else, and
every operation of the machine answers the same from it: the statement O45. -/

namespace Sys2Proof.Proofs

open Sys2Proof Sys2Proof.Machine Sys2Proof.Claims

/-- The value where it can be observed, 0 elsewhere. -/
def shownIf {n : Nat} (b : Bool) (v : BitVec n) : BitVec n :=
  match b with
  | true => v
  | false => 0#n

theorem shownIf_true {n : Nat} (v : BitVec n) : shownIf true v = v := rfl

theorem shownIf_shownIf {n : Nat} (b : Bool) (v : BitVec n) : shownIf b (shownIf b v) = shownIf b v := by
  cases b <;> rfl

theorem shownIf_eq_iff {n : Nat} {b : Bool} {v w : BitVec n} : shownIf b w = shownIf b v ↔ (b = true → w = v) := by
  cases b <;> simp [shownIf]

/-- The state with what cannot be observed set to 0. -/
def visible (s : State) : State :=
  { s with
    latchB := shownIf s.outB s.latchB
    latchC := shownIf s.outC s.latchC
    latchD := shownIf s.outD s.latchD
    asr := shownIf s.depth s.asr }

/-- The same of an outcome. -/
def visibleOutcome (x : Result) : Result :=
  match x with
  | .next s => .next (visible s)
  | .fault f => .fault f
  | .refused q => .refused q

theorem visible_of_alike {s t : State} (h : Alike s t) : visible t = visible s := by
  obtain ⟨hpc, hdepth, hram, ⟨hbcd, hcmp, hcy, hz⟩, houtB, houtC, houtD, hskip, hmode, hheld, hchip, henv, hlatchB,
    hlatchC, hlatchD, hasr⟩ := h
  simp only [visible, hpc, hdepth, hram, hbcd, hcmp, hcy, hz, houtB, houtC, houtD, hskip, hmode, hheld, hchip, henv,
    State.mk.injEq, true_and, and_true, shownIf_eq_iff]
  exact ⟨hasr, hlatchB, hlatchC, hlatchD⟩

theorem alike_of_visible {s t : State} (h : visible t = visible s) : Alike s t := by
  simp only [visible, State.mk.injEq] at h
  obtain ⟨hpc, hasr, hdepth, hram, hbcd, hcmp, hcy, hz, hlatchB, hlatchC, hlatchD, houtB, houtC, houtD, hskip, hmode,
    hheld, hchip, henv⟩ := h
  rw [houtB, shownIf_eq_iff] at hlatchB
  rw [houtC, shownIf_eq_iff] at hlatchC
  rw [houtD, shownIf_eq_iff] at hlatchD
  rw [hdepth, shownIf_eq_iff] at hasr
  exact ⟨hpc, hdepth, hram, ⟨hbcd, hcmp, hcy, hz⟩, houtB, houtC, houtD, hskip, hmode, hheld, hchip, henv, hlatchB,
    hlatchC, hlatchD, hasr⟩

theorem alikeOutcomes_of_visible {x y : Result} (h : visibleOutcome y = visibleOutcome x) : AlikeOutcomes x y := by
  cases x <;> cases y <;> simp only [visibleOutcome, Host.Outcome.next.injEq, Host.Outcome.fault.injEq,
    Host.Outcome.refused.injEq, reduceCtorEq] at h
  case next.next s t => exact ⟨t, rfl, alike_of_visible h⟩
  case fault.fault => exact congrArg _ h
  case refused.refused => exact congrArg _ h

theorem visible_visible (s : State) : visible (visible s) = visible s := by
  simp [visible, shownIf_shownIf]

/-! ### What is read -/

/-- The chip drives a pin of an output port by its latch, and of an input port not at all (60_exceptions.md R285 to
R287). -/
theorem pinOut_visible (s : State) (p : Pin) : pinOut (visible s) p = pinOut s p := by
  have hout : ∀ q, outMode (visible s) q = outMode s q := fun q => by cases q <;> rfl
  cases hmode : outMode s (portOf p) with
  | false => rw [pinOut_of_input hmode, pinOut_of_input ((hout _).trans hmode)]
  | true =>
    have hlatch : latchBit (visible s) p = latchBit s p := by
      cases hp : portOf p <;> rw [hp] at hmode <;> simp only [outMode] at hmode <;> simp [latchBit, hp, visible, hmode, shownIf_true]
    rw [pinOut_eq, pinOut_eq, hout, hlatch]
    rfl

theorem pinLevel_visible (s : State) (p : Pin) : pinLevel (visible s) p = pinLevel s p := by
  simp only [pinLevel, pinOut_visible]
  rfl

theorem memRead_visible (s : State) (m : DataAddr) : memRead (visible s) m = memRead s m := by
  unfold memRead
  split
  case h_2 p _ => cases p <;> simp only [readPort, pinLevel_visible]
  all_goals rfl

theorem operandsRM_visible (s : State) (r : RegNum) (m : DataAddr) :
    operandsRM (visible s) r m = operandsRM s r m := by
  rw [operandsRM, operandsRM, memRead_visible]
  rfl

theorem operandsMI_visible (s : State) (m : DataAddr) (n : Nibble) :
    operandsMI (visible s) m n = operandsMI s m n := by
  rw [operandsMI, operandsMI, memRead_visible]

/-! ### What is written -/

/-- The operation answers alike from a state and from what is visible of it. -/
def Blind (f : State → Result) : Prop := ∀ s, visibleOutcome (f (visible s)) = visibleOutcome (f s)

/-- An update that answers, from what is visible, what is visible of its answer. -/
theorem visibleOutcome_next {t u : State} (h : t = visible u) :
    visibleOutcome (.next t) = visibleOutcome (.next u) := by
  rw [visibleOutcome, visibleOutcome, h, visible_visible]

theorem visibleOutcome_onOk {α : Type} {x : Except Fault α} {k k' : α → Result}
    (h : ∀ a, visibleOutcome (k a) = visibleOutcome (k' a)) : visibleOutcome (onOk x k) = visibleOutcome (onOk x k') := by
  cases x with
  | ok a => exact h a
  | error f => rfl

/-- A written port is an output whose latch is the nibble written, whatever it was. -/
theorem visible_writePort (s : State) (p : Port) (v : Nibble) :
    visible ((visible s).writePort p v).nextPc = visible (s.writePort p v).nextPc := by
  cases p <;> simp [visible, State.writePort, State.nextPc, shownIf_shownIf]

theorem storeAt_blind (m : DataAddr) (v : Nibble) : Blind fun s => storeAt s m v := by
  intro s
  simp only [storeAt, memWrite]
  cases place m with
  | port p => exact congrArg Host.Outcome.next (visible_writePort s p v)
  | ram | bcdNibble | psw => exact visibleOutcome_next rfl
  | absent =>
    simp only [writeAbsent, show (visible s).chip = s.chip from rfl]
    cases s.chip.absent with
    | fault => rfl
    | readZeroWriteVoid | anyValueWriteVoid => exact visibleOutcome_next rfl

theorem arithExec_blind (dir : Direction) (d : DataAddr) (x : AluInput) (c : Bool) : Blind (arithExec dir d x c) := by
  intro s
  have hflags := storeAt_blind d (aluOut s.bcd dir x.a x.b c).value (s.setCarryZero (aluOut s.bcd dir x.a x.b c).carry
    (zeroAfter s.cmp s.z (aluOut s.bcd dir x.a x.b c).value))
  unfold arithExec
  dsimp only
  rw [show (visible s).cmp = s.cmp from rfl]
  split
  · exact visibleOutcome_next rfl
  · exact hflags

theorem visible_skipIf (s : State) (b : Bool) : (visible s).skipIf b = visible (s.skipIf b) := by cases b <;> rfl

theorem judge_blind (cond : Nibble → Nibble → Bool) (m : DataAddr) (n : Nibble) : Blind (judge cond m n) := by
  intro s
  rw [judge, judge, operandsMI_visible]
  refine visibleOutcome_onOk fun x => visibleOutcome_next ?_
  rw [show (visible s).clearCmp = visible s.clearCmp from rfl, visible_skipIf]
  rfl

/-! ### Every instruction -/

theorem execCall_blind (a : BitVec 11) : Blind (execCall a) := by
  intro s
  unfold execCall
  rw [show (visible s).depth = s.depth from rfl]
  split
  · rfl
  · split
    · rfl
    · exact visibleOutcome_next rfl

/-- A return reads ASR where it is saved, and leaves it free. -/
theorem execRet_blind : Blind execRet := by
  intro s
  unfold execRet
  rw [show (visible s).depth = s.depth from rfl]
  split
  · next hd => simp [visibleOutcome, visible, State.popReturn, hd, shownIf_true, shownIf_shownIf]
  · rfl

theorem execRetsk_blind : Blind execRetsk := by
  intro s
  unfold execRetsk
  rw [show (visible s).depth = s.depth from rfl]
  split
  · next hd => simp [visibleOutcome, visible, State.popReturn, State.setSkip, hd, shownIf_true, shownIf_shownIf]
  · rfl

theorem execHalt_blind (c : Nibble) : Blind (execHalt c) := by
  intro s
  unfold execHalt
  rw [pinLevel_visible]
  split
  · rfl
  · split
    · exact visibleOutcome_next rfl
    · split <;> exact visibleOutcome_next rfl

/-- STOP 0000B makes every port an input and frees the level, so what was hidden stays so. -/
theorem execStop_blind (c : Nibble) : Blind (execStop c) := by
  intro s
  unfold execStop
  rw [pinLevel_visible]
  split
  · rfl
  · split
    · rfl
    · split <;> exact visibleOutcome_next rfl

theorem exec_blind (i : Instr) : Blind (exec i) := by
  intro s
  induction i using instr_families with
  | arithReg op r m =>
    rw [exec_arith_reg, exec_arith_reg, arithRM, arithRM, operandsRM_visible]
    exact visibleOutcome_onOk fun x => arithExec_blind _ _ x _ s
  | arithImm op m n =>
    rw [exec_arith_imm, exec_arith_imm, arithMI, arithMI, operandsMI_visible]
    exact visibleOutcome_onOk fun x => arithExec_blind _ _ x _ s
  | logicReg op r m =>
    rw [exec_logic_reg, exec_logic_reg, logicRM, logicRM, operandsRM_visible]
    exact visibleOutcome_onOk fun x => visibleOutcome_next rfl
  | logicImm op m n =>
    rw [exec_logic_imm, exec_logic_imm, logicMI, logicMI, operandsMI_visible]
    exact visibleOutcome_onOk fun x => storeAt_blind m _ s
  | compare op m n =>
    rw [exec_compare, exec_compare, compareWith, compareWith, operandsMI_visible]
    refine visibleOutcome_onOk fun x => visibleOutcome_next ?_
    rw [visible_skipIf]
    rfl
  | skt m n => exact judge_blind allTrue m n s
  | skf m n => exact judge_blind allFalse m n s
  | ld r m =>
    rw [exec_ld, exec_ld, memRead_visible]
    exact visibleOutcome_onOk fun v => visibleOutcome_next rfl
  | st m r => exact storeAt_blind m (s.reg r) s
  | mov m n => exact storeAt_blind m n s
  | br a =>
    simp only [exec, execBr]
    split
    · exact visibleOutcome_next rfl
    · rfl
  | call a => exact execCall_blind a s
  | ret => exact execRet_blind s
  | retsk => exact execRetsk_blind s
  | stop c => exact execStop_blind c s
  | halt c => exact execHalt_blind c s
  | rorc | nop => exact visibleOutcome_next rfl

/-! ### The step -/

theorem cpuStep_blind : Blind cpuStep := by
  intro s
  unfold cpuStep
  rw [show (visible s).skip = s.skip from rfl, show fetchWord (visible s) = fetchWord s from rfl]
  split
  · exact visibleOutcome_next rfl
  · split
    · rfl
    · split
      · rfl
      · exact exec_blind _ s

theorem whileResetHigh_blind : Blind whileResetHigh := by
  intro s
  unfold whileResetHigh
  rw [show (visible s).mode = s.mode from rfl, pinLevel_visible, pinLevel_visible]
  split
  · exact cpuStep_blind s
  · split <;> exact visibleOutcome_next rfl
  · exact visibleOutcome_next rfl
  · split <;> exact visibleOutcome_next rfl
  · exact visibleOutcome_next rfl

/-- The reset event writes whatever is hidden. -/
theorem whileResetLow_blind : Blind fun s => .next (whileResetLow s) := by
  intro s
  dsimp only [whileResetLow]
  rw [show (visible s).resetHeld = s.resetHeld from rfl]
  split
  · exact visibleOutcome_next rfl
  · rfl

theorem evaluate_blind : Blind evaluate := by
  intro s
  unfold evaluate
  rw [show resetLevel (visible s) = resetLevel s from rfl]
  split
  · exact whileResetHigh_blind (s.setResetHeld false)
  · exact whileResetLow_blind s

theorem visibleOutcome_thenAdvance (x : Result) :
    visibleOutcome (thenAdvance x) = thenAdvance (visibleOutcome x) := by cases x <;> rfl

theorem step_blind : Blind step := by
  intro s
  rw [step, step, visibleOutcome_thenAdvance, visibleOutcome_thenAdvance, evaluate_blind]

/-- Settles O45: two states that cannot be told apart have the same visible part, and a step answers as from it. -/
theorem inputLatchesAndFreeStackAreUnobservable : Obligations.InputLatchesAndFreeStackAreUnobservable := by
  intro s t h
  refine alikeOutcomes_of_visible ?_
  calc visibleOutcome (step t) = visibleOutcome (step (visible t)) := (step_blind t).symm
    _ = visibleOutcome (step (visible s)) := by rw [visible_of_alike h]
    _ = visibleOutcome (step s) := step_blind s

end Sys2Proof.Proofs
end
